-- ==== Sys2Proof/Word.lean ====
section
/-! DEFINITION. The word types of the JarPSX core (00_scope.md R9: 32-bit registers, 32-bit byte
addresses, 32-bit instructions). Bit numbering is R11: bit 0 is the least significant bit. -/

namespace Sys2Proof

/-- A 32-bit register, address or instruction word (R9). -/
abbrev Word := BitVec 32

/-- A bus halfword, and the stored type of the 16-bit GTE fields (R81, R51). -/
abbrev Half := BitVec 16

/-- A bus byte (R81). -/
abbrev Byte := BitVec 8

/-- The number of a general register, a COP0 register or a 5-bit GTE register field (R20, R111). -/
abbrev RegIdx := BitVec 5

end Sys2Proof
end

