-- ==== Sys2Proof/Machine/Fields.lean ====
section
/-! DEFINITION. The fields of an instruction word (30_encoding.md R111, R115) and the placing of a
field at a bit position, used by the encoder and by the byte order of the bus. -/

namespace Sys2Proof

/-- `opcode` = `w[31:26]` (R111). -/
def opcodeOf (w : Word) : BitVec 6 := w.extractLsb' 26 6

/-- `rs` = `w[25:21]` (R111). -/
def rsOf (w : Word) : RegIdx := w.extractLsb' 21 5

/-- `rt` = `w[20:16]` (R111). -/
def rtOf (w : Word) : RegIdx := w.extractLsb' 16 5

/-- `rd` = `w[15:11]` (R111). -/
def rdOf (w : Word) : RegIdx := w.extractLsb' 11 5

/-- `imm5`, the shift amount, = `w[10:6]` (R111). -/
def saOf (w : Word) : BitVec 5 := w.extractLsb' 6 5

/-- `functor` = `w[5:0]` (R111); for a GTE command word it is the `command` field (R115). -/
def functorOf (w : Word) : BitVec 6 := w.extractLsb' 0 6

/-- `imm16` = `w[15:0]` (R111). -/
def immOf (w : Word) : BitVec 16 := w.extractLsb' 0 16

/-- `target26` = `w[25:0]` (R111). -/
def targetOf (w : Word) : BitVec 26 := w.extractLsb' 0 26

/-- Bit 25, which tells a coprocessor operation from a register move (R112). -/
def isCoprocessorOp (w : Word) : Bool := w.getLsbD 25

/-- `sf` = `w[19]` (R115). -/
def sfOf (w : Word) : Bool := w.getLsbD 19

/-- `mx` = `w[18:17]` (R115). -/
def mxOf (w : Word) : BitVec 2 := w.extractLsb' 17 2

/-- `vx` = `w[16:15]` (R115). -/
def vxOf (w : Word) : BitVec 2 := w.extractLsb' 15 2

/-- `tx` = `w[14:13]` (R115). -/
def txOf (w : Word) : BitVec 2 := w.extractLsb' 13 2

/-- `lm` = `w[10]` (R115). -/
def lmOf (w : Word) : Bool := w.getLsbD 10

/-- The word that holds `v` with its bit 0 at bit `lo` and zeros elsewhere. -/
def place {n : Nat} (lo : Nat) (v : BitVec n) : Word := v.setWidth 32 <<< lo

/-- The byte of `w` whose lowest bit is bit `lo`. -/
def byteAt (lo : Nat) (w : Word) : Byte := w.extractLsb' lo 8

end Sys2Proof
end

