-- ==== Sys2Proof/Syntax.lean ====
section
/-! DEFINITION. The instructions: one constructor for each row of spec/opcode_table.json, in the
table's order, with the operand fields the table gives the row. Bits the decoder ignores (R122) are
no part of an instruction. -/

namespace Sys2Proof

/-- `mx`, the multiply matrix of MVMVA (R115). -/
inductive MatrixSel where
  | rt | llm | lcm | garbage
  deriving DecidableEq, Repr

/-- `vx`, the multiply vector of MVMVA (R115). -/
inductive VectorSel where
  | v0 | v1 | v2 | ir
  deriving DecidableEq, Repr

/-- `tx`, the translation vector of MVMVA (R115). -/
inductive TranslationSel where
  | tr | bk | fc | none
  deriving DecidableEq, Repr

/-- One constructor per row of the opcode table. `rs`, `rt`, `rd`, `sa`, `imm` and `target` are the
fields of R111, `sf` and `lm` those of R115. The four fall-through rows carry what tells their words
apart from the specific rows (R118 to R121, R130). -/
inductive Instr where
  -- opcode 0, by functor (R117)
  | sll (rt rd : RegIdx) (sa : BitVec 5)
  | srl (rt rd : RegIdx) (sa : BitVec 5)
  | sra (rt rd : RegIdx) (sa : BitVec 5)
  | sllv (rs rt rd : RegIdx)
  | srlv (rs rt rd : RegIdx)
  | srav (rs rt rd : RegIdx)
  | jr (rs : RegIdx)
  | jalr (rs rd : RegIdx)
  | syscall
  | brk
  | mfhi (rd : RegIdx)
  | mthi (rs : RegIdx)
  | mflo (rd : RegIdx)
  | mtlo (rs : RegIdx)
  | mult (rs rt : RegIdx)
  | multu (rs rt : RegIdx)
  | div (rs rt : RegIdx)
  | divu (rs rt : RegIdx)
  | add (rs rt rd : RegIdx)
  | addu (rs rt rd : RegIdx)
  | sub (rs rt rd : RegIdx)
  | subu (rs rt rd : RegIdx)
  | and (rs rt rd : RegIdx)
  | or (rs rt rd : RegIdx)
  | xor (rs rt rd : RegIdx)
  | nor (rs rt rd : RegIdx)
  | slt (rs rt rd : RegIdx)
  | sltu (rs rt rd : RegIdx)
  -- opcode 1, by the rt field (R118)
  | bltz (rs : RegIdx) (imm : BitVec 16)
  | bgez (rs : RegIdx) (imm : BitVec 16)
  | bltzal (rs : RegIdx) (imm : BitVec 16)
  | bgezal (rs : RegIdx) (imm : BitVec 16)
  -- the primary map (R116)
  | j (target : BitVec 26)
  | jal (target : BitVec 26)
  | beq (rs rt : RegIdx) (imm : BitVec 16)
  | bne (rs rt : RegIdx) (imm : BitVec 16)
  | blez (rs : RegIdx) (imm : BitVec 16)
  | bgtz (rs : RegIdx) (imm : BitVec 16)
  | addi (rs rt : RegIdx) (imm : BitVec 16)
  | addiu (rs rt : RegIdx) (imm : BitVec 16)
  | slti (rs rt : RegIdx) (imm : BitVec 16)
  | sltiu (rs rt : RegIdx) (imm : BitVec 16)
  | andi (rs rt : RegIdx) (imm : BitVec 16)
  | ori (rs rt : RegIdx) (imm : BitVec 16)
  | xori (rs rt : RegIdx) (imm : BitVec 16)
  | lui (rt : RegIdx) (imm : BitVec 16)
  -- coprocessor 0 (R119)
  | mfc0 (rt rd : RegIdx)
  | mtc0 (rt rd : RegIdx)
  | rfe
  | cop0Reserved (rs : BitVec 5) (functor : BitVec 6)
  | cop1
  -- coprocessor 2, register moves (R120)
  | mfc2 (rt rd : RegIdx)
  | cfc2 (rt rd : RegIdx)
  | mtc2 (rt rd : RegIdx)
  | ctc2 (rt rd : RegIdx)
  | cop2Reserved (rs : BitVec 5)
  -- coprocessor 2, GTE commands by command number (R121)
  | rtps (sf lm : Bool)
  | nclip
  | op (sf lm : Bool)
  | dpcs (sf lm : Bool)
  | intpl (sf lm : Bool)
  | mvmva (sf : Bool) (mx : MatrixSel) (vx : VectorSel) (tx : TranslationSel) (lm : Bool)
  | ncds (sf lm : Bool)
  | cdp (sf lm : Bool)
  | ncdt (sf lm : Bool)
  | nccs (sf lm : Bool)
  | cc (sf lm : Bool)
  | ncs (sf lm : Bool)
  | nct (sf lm : Bool)
  | sqr (sf lm : Bool)
  | dcpl (sf lm : Bool)
  | dpct (sf lm : Bool)
  | avsz3
  | avsz4
  | rtpt (sf lm : Bool)
  | gpf (sf lm : Bool)
  | gpl (sf lm : Bool)
  | ncct (sf lm : Bool)
  | gteReserved (command : BitVec 6)
  | cop3
  -- loads and stores (R116)
  | lb (rs rt : RegIdx) (imm : BitVec 16)
  | lh (rs rt : RegIdx) (imm : BitVec 16)
  | lwl (rs rt : RegIdx) (imm : BitVec 16)
  | lw (rs rt : RegIdx) (imm : BitVec 16)
  | lbu (rs rt : RegIdx) (imm : BitVec 16)
  | lhu (rs rt : RegIdx) (imm : BitVec 16)
  | lwr (rs rt : RegIdx) (imm : BitVec 16)
  | sb (rs rt : RegIdx) (imm : BitVec 16)
  | sh (rs rt : RegIdx) (imm : BitVec 16)
  | swl (rs rt : RegIdx) (imm : BitVec 16)
  | sw (rs rt : RegIdx) (imm : BitVec 16)
  | swr (rs rt : RegIdx) (imm : BitVec 16)
  -- coprocessor loads and stores (R116)
  | lwc0
  | lwc1
  | lwc2 (rs rt : RegIdx) (imm : BitVec 16)
  | lwc3
  | swc0
  | swc1
  | swc2 (rs rt : RegIdx) (imm : BitVec 16)
  | swc3
  -- every word no row above matches (R130)
  | reserved (word : Word)
  deriving DecidableEq, Repr

end Sys2Proof
end

