-- ==== Sys2Proof/WellFormed.lean ====
section
/-! DEFINITION. Which terms of `Instr` are instructions of the hardware. Every operand of a specific
row may hold every value of its field, so only the four fall-through rows are checked: each may hold
only what no specific row takes (30_encoding.md R118 to R121, R130, R133). -/

namespace Sys2Proof

/-- The primary opcodes R116 marks reserved, as R130 lists them. -/
def reservedOpcodes : List (BitVec 6) :=
  [0x14, 0x15, 0x16, 0x17, 0x18, 0x19, 0x1A, 0x1B, 0x1C, 0x1D, 0x1E, 0x1F,
   0x27, 0x2C, 0x2D, 0x2F, 0x34, 0x35, 0x36, 0x37, 0x3C, 0x3D, 0x3E, 0x3F]

/-- The functors R117 marks reserved under opcode 0. -/
def reservedFunctors : List (BitVec 6) :=
  [0x01, 0x05, 0x0A, 0x0B, 0x0E, 0x0F, 0x14, 0x15, 0x16, 0x17, 0x1C, 0x1D, 0x1E, 0x1F,
   0x28, 0x29, 0x2C, 0x2D, 0x2E, 0x2F, 0x30, 0x31, 0x32, 0x33, 0x34, 0x35, 0x36, 0x37,
   0x38, 0x39, 0x3A, 0x3B, 0x3C, 0x3D, 0x3E, 0x3F]

/-- The `rt` values R118 gives an instruction under opcode 1. -/
def regimmSelectors : List (BitVec 5) := [0x00, 0x01, 0x10, 0x11]

/-- The `rs` values R119 gives a register move under opcode 0x10. -/
def cop0Moves : List (BitVec 5) := [0x00, 0x04]

/-- The `rs` values R120 gives a register move under opcode 0x12. -/
def cop2Moves : List (BitVec 5) := [0x00, 0x02, 0x04, 0x06]

/-- The 22 command numbers of R121. -/
def gteCommands : List (BitVec 6) :=
  [0x01, 0x06, 0x0C, 0x10, 0x11, 0x12, 0x13, 0x14, 0x16, 0x1B, 0x1C, 0x1E, 0x20, 0x28,
   0x29, 0x2A, 0x2D, 0x2E, 0x30, 0x3D, 0x3E, 0x3F]

/-- A word of the `RESERVED` row: a reserved primary opcode, functor or REGIMM selector (R130). -/
def isReservedWord (w : Word) : Bool :=
  reservedOpcodes.contains (opcodeOf w)
    || (opcodeOf w == 0x00 && reservedFunctors.contains (functorOf w))
    || (opcodeOf w == 0x01 && !regimmSelectors.contains (rtOf w))

/-- A COP0 sub-operation with no instruction: with bit 25 (the top bit of `rs`) clear an `rs` other
than the moves, with bit 25 set a functor other than RFE's 0x10 (R119, R307). -/
def isCop0Reserved (rs : BitVec 5) (functor : BitVec 6) : Bool :=
  if rs.getLsbD 4 then functor != 0x10 else !cop0Moves.contains rs

/-- A COP2 word with bit 25 clear whose `rs` is no register move (R120, R337). -/
def isCop2Reserved (rs : BitVec 5) : Bool := !rs.getLsbD 4 && !cop2Moves.contains rs

/-- The check of an instruction. -/
def Instr.wellFormed : Instr → Bool
  | .cop0Reserved rs functor => isCop0Reserved rs functor
  | .cop2Reserved rs => isCop2Reserved rs
  | .gteReserved command => !gteCommands.contains command
  | .reserved w => isReservedWord w
  | .sll .. | .srl .. | .sra .. | .sllv .. | .srlv .. | .srav .. | .jr .. | .jalr ..
  | .syscall | .brk | .mfhi .. | .mthi .. | .mflo .. | .mtlo .. | .mult .. | .multu ..
  | .div .. | .divu .. | .add .. | .addu .. | .sub .. | .subu .. | .and .. | .or .. | .xor ..
  | .nor .. | .slt .. | .sltu .. | .bltz .. | .bgez .. | .bltzal .. | .bgezal .. | .j .. | .jal ..
  | .beq .. | .bne .. | .blez .. | .bgtz .. | .addi .. | .addiu .. | .slti .. | .sltiu ..
  | .andi .. | .ori .. | .xori .. | .lui .. | .mfc0 .. | .mtc0 .. | .rfe | .cop1 | .mfc2 ..
  | .cfc2 .. | .mtc2 .. | .ctc2 .. | .rtps .. | .nclip | .op .. | .dpcs .. | .intpl .. | .mvmva ..
  | .ncds .. | .cdp .. | .ncdt .. | .nccs .. | .cc .. | .ncs .. | .nct .. | .sqr .. | .dcpl ..
  | .dpct .. | .avsz3 | .avsz4 | .rtpt .. | .gpf .. | .gpl .. | .ncct .. | .cop3 | .lb .. | .lh ..
  | .lwl .. | .lw .. | .lbu .. | .lhu .. | .lwr .. | .sb .. | .sh .. | .swl .. | .sw .. | .swr ..
  | .lwc0 | .lwc1 | .lwc2 .. | .lwc3 | .swc0 | .swc1 | .swc2 .. | .swc3 => true

/-- A well-formed instruction. -/
abbrev Instr.WellFormed (i : Instr) : Prop := i.wellFormed = true

end Sys2Proof
end

