-- ==== Sys2Proof/Decode.lean ====
section
/-! DEFINITION. The decoder and the encoder, both written from the maps of 30_encoding.md R112 and
R115 to R122. Decoding is total: a word no specific row takes decodes to a fall-through row, so that
it traps when it executes (R130). Only a byte string shorter than an instruction is rejected. -/

namespace Sys2Proof

/-! ### Decoding -/

/-- SPECIAL: opcode 0, by functor (R117). -/
def decodeSpecial (w : Word) : Instr :=
  match functorOf w with
  | 0x00#6 => .sll (rtOf w) (rdOf w) (saOf w)
  | 0x02#6 => .srl (rtOf w) (rdOf w) (saOf w)
  | 0x03#6 => .sra (rtOf w) (rdOf w) (saOf w)
  | 0x04#6 => .sllv (rsOf w) (rtOf w) (rdOf w)
  | 0x06#6 => .srlv (rsOf w) (rtOf w) (rdOf w)
  | 0x07#6 => .srav (rsOf w) (rtOf w) (rdOf w)
  | 0x08#6 => .jr (rsOf w)
  | 0x09#6 => .jalr (rsOf w) (rdOf w)
  | 0x0C#6 => .syscall
  | 0x0D#6 => .brk
  | 0x10#6 => .mfhi (rdOf w)
  | 0x11#6 => .mthi (rsOf w)
  | 0x12#6 => .mflo (rdOf w)
  | 0x13#6 => .mtlo (rsOf w)
  | 0x18#6 => .mult (rsOf w) (rtOf w)
  | 0x19#6 => .multu (rsOf w) (rtOf w)
  | 0x1A#6 => .div (rsOf w) (rtOf w)
  | 0x1B#6 => .divu (rsOf w) (rtOf w)
  | 0x20#6 => .add (rsOf w) (rtOf w) (rdOf w)
  | 0x21#6 => .addu (rsOf w) (rtOf w) (rdOf w)
  | 0x22#6 => .sub (rsOf w) (rtOf w) (rdOf w)
  | 0x23#6 => .subu (rsOf w) (rtOf w) (rdOf w)
  | 0x24#6 => .and (rsOf w) (rtOf w) (rdOf w)
  | 0x25#6 => .or (rsOf w) (rtOf w) (rdOf w)
  | 0x26#6 => .xor (rsOf w) (rtOf w) (rdOf w)
  | 0x27#6 => .nor (rsOf w) (rtOf w) (rdOf w)
  | 0x2A#6 => .slt (rsOf w) (rtOf w) (rdOf w)
  | 0x2B#6 => .sltu (rsOf w) (rtOf w) (rdOf w)
  | _ => .reserved w

/-- REGIMM: opcode 1, by the `rt` field (R118). -/
def decodeRegimm (w : Word) : Instr :=
  match rtOf w with
  | 0x00#5 => .bltz (rsOf w) (immOf w)
  | 0x01#5 => .bgez (rsOf w) (immOf w)
  | 0x10#5 => .bltzal (rsOf w) (immOf w)
  | 0x11#5 => .bgezal (rsOf w) (immOf w)
  | _ => .reserved w

/-- COP0: opcode 0x10, by bit 25, then by `rs` or by functor (R119). -/
def decodeCop0 (w : Word) : Instr :=
  if isCoprocessorOp w then
    match functorOf w with
    | 0x10#6 => .rfe
    | f => .cop0Reserved (rsOf w) f
  else
    match rsOf w with
    | 0x00#5 => .mfc0 (rtOf w) (rdOf w)
    | 0x04#5 => .mtc0 (rtOf w) (rdOf w)
    | r => .cop0Reserved r (functorOf w)

/-- The meaning of the selector `mx` (R115). -/
def decodeMatrix (v : BitVec 2) : MatrixSel :=
  match v with
  | 0#2 => .rt
  | 1#2 => .llm
  | 2#2 => .lcm
  | _ => .garbage

/-- The meaning of the selector `vx` (R115). -/
def decodeVector (v : BitVec 2) : VectorSel :=
  match v with
  | 0#2 => .v0
  | 1#2 => .v1
  | 2#2 => .v2
  | _ => .ir

/-- The meaning of the selector `tx` (R115). -/
def decodeTranslation (v : BitVec 2) : TranslationSel :=
  match v with
  | 0#2 => .tr
  | 1#2 => .bk
  | 2#2 => .fc
  | _ => .none

/-- A GTE command word, by its command number (R121); unlisted numbers are reserved (R133). -/
def decodeGte (w : Word) : Instr :=
  match functorOf w with
  | 0x01#6 => .rtps (sfOf w) (lmOf w)
  | 0x06#6 => .nclip
  | 0x0C#6 => .op (sfOf w) (lmOf w)
  | 0x10#6 => .dpcs (sfOf w) (lmOf w)
  | 0x11#6 => .intpl (sfOf w) (lmOf w)
  | 0x12#6 => .mvmva (sfOf w) (decodeMatrix (mxOf w)) (decodeVector (vxOf w))
      (decodeTranslation (txOf w)) (lmOf w)
  | 0x13#6 => .ncds (sfOf w) (lmOf w)
  | 0x14#6 => .cdp (sfOf w) (lmOf w)
  | 0x16#6 => .ncdt (sfOf w) (lmOf w)
  | 0x1B#6 => .nccs (sfOf w) (lmOf w)
  | 0x1C#6 => .cc (sfOf w) (lmOf w)
  | 0x1E#6 => .ncs (sfOf w) (lmOf w)
  | 0x20#6 => .nct (sfOf w) (lmOf w)
  | 0x28#6 => .sqr (sfOf w) (lmOf w)
  | 0x29#6 => .dcpl (sfOf w) (lmOf w)
  | 0x2A#6 => .dpct (sfOf w) (lmOf w)
  | 0x2D#6 => .avsz3
  | 0x2E#6 => .avsz4
  | 0x30#6 => .rtpt (sfOf w) (lmOf w)
  | 0x3D#6 => .gpf (sfOf w) (lmOf w)
  | 0x3E#6 => .gpl (sfOf w) (lmOf w)
  | 0x3F#6 => .ncct (sfOf w) (lmOf w)
  | c => .gteReserved c

/-- COP2: opcode 0x12, by bit 25, then by `rs` or as a GTE command (R120). -/
def decodeCop2 (w : Word) : Instr :=
  if isCoprocessorOp w then
    decodeGte w
  else
    match rsOf w with
    | 0x00#5 => .mfc2 (rtOf w) (rdOf w)
    | 0x02#5 => .cfc2 (rtOf w) (rdOf w)
    | 0x04#5 => .mtc2 (rtOf w) (rdOf w)
    | 0x06#5 => .ctc2 (rtOf w) (rdOf w)
    | r => .cop2Reserved r

/-- The decoder: the primary map, by opcode (R116, R145). -/
def decode (w : Word) : Instr :=
  match opcodeOf w with
  | 0x00#6 => decodeSpecial w
  | 0x01#6 => decodeRegimm w
  | 0x02#6 => .j (targetOf w)
  | 0x03#6 => .jal (targetOf w)
  | 0x04#6 => .beq (rsOf w) (rtOf w) (immOf w)
  | 0x05#6 => .bne (rsOf w) (rtOf w) (immOf w)
  | 0x06#6 => .blez (rsOf w) (immOf w)
  | 0x07#6 => .bgtz (rsOf w) (immOf w)
  | 0x08#6 => .addi (rsOf w) (rtOf w) (immOf w)
  | 0x09#6 => .addiu (rsOf w) (rtOf w) (immOf w)
  | 0x0A#6 => .slti (rsOf w) (rtOf w) (immOf w)
  | 0x0B#6 => .sltiu (rsOf w) (rtOf w) (immOf w)
  | 0x0C#6 => .andi (rsOf w) (rtOf w) (immOf w)
  | 0x0D#6 => .ori (rsOf w) (rtOf w) (immOf w)
  | 0x0E#6 => .xori (rsOf w) (rtOf w) (immOf w)
  | 0x0F#6 => .lui (rtOf w) (immOf w)
  | 0x10#6 => decodeCop0 w
  | 0x11#6 => .cop1
  | 0x12#6 => decodeCop2 w
  | 0x13#6 => .cop3
  | 0x20#6 => .lb (rsOf w) (rtOf w) (immOf w)
  | 0x21#6 => .lh (rsOf w) (rtOf w) (immOf w)
  | 0x22#6 => .lwl (rsOf w) (rtOf w) (immOf w)
  | 0x23#6 => .lw (rsOf w) (rtOf w) (immOf w)
  | 0x24#6 => .lbu (rsOf w) (rtOf w) (immOf w)
  | 0x25#6 => .lhu (rsOf w) (rtOf w) (immOf w)
  | 0x26#6 => .lwr (rsOf w) (rtOf w) (immOf w)
  | 0x28#6 => .sb (rsOf w) (rtOf w) (immOf w)
  | 0x29#6 => .sh (rsOf w) (rtOf w) (immOf w)
  | 0x2A#6 => .swl (rsOf w) (rtOf w) (immOf w)
  | 0x2B#6 => .sw (rsOf w) (rtOf w) (immOf w)
  | 0x2E#6 => .swr (rsOf w) (rtOf w) (immOf w)
  | 0x30#6 => .lwc0
  | 0x31#6 => .lwc1
  | 0x32#6 => .lwc2 (rsOf w) (rtOf w) (immOf w)
  | 0x33#6 => .lwc3
  | 0x38#6 => .swc0
  | 0x39#6 => .swc1
  | 0x3A#6 => .swc2 (rsOf w) (rtOf w) (immOf w)
  | 0x3B#6 => .swc3
  | _ => .reserved w

/-- Why a byte string is no instruction: it is shorter than the four bytes of R110. -/
inductive DecodeError where
  | truncated
  deriving DecidableEq, Repr

/-- The word four bytes hold, the first at the lowest address (R83, little-endian). -/
def wordOfBytes (b0 b1 b2 b3 : Byte) : Word :=
  place 0 b0 ||| place 8 b1 ||| place 16 b2 ||| place 24 b3

/-- The four bytes of a word, the one at the lowest address first (R83). -/
def bytesOfWord (w : Word) : List Byte := [byteAt 0 w, byteAt 8 w, byteAt 16 w, byteAt 24 w]

/-- The first instruction of a byte string and the bytes after it. -/
def decodeBytes : List Byte → Except DecodeError (Instr × List Byte)
  | b0 :: b1 :: b2 :: b3 :: rest => .ok (decode (wordOfBytes b0 b1 b2 b3), rest)
  | _ => .error .truncated

/-- What the decoder reads from the table word `w` of `nbits` bits, every higher bit zero. -/
def decodeTableWord (nbits w : Nat) : Option Instr :=
  match decodeBytes (bytesOfWord (BitVec.ofNat 32 (w % 2 ^ nbits))) with
  | .ok (i, _) => some i
  | .error _ => none

/-! ### Encoding -/

/-- The R format under opcode 0 (R112). -/
def rWord (rs rt rd sa : BitVec 5) (functor : BitVec 6) : Word :=
  place 21 rs ||| place 16 rt ||| place 11 rd ||| place 6 sa ||| place 0 functor

/-- The I format (R112). -/
def iWord (opcode : BitVec 6) (rs rt : BitVec 5) (imm : BitVec 16) : Word :=
  place 26 opcode ||| place 21 rs ||| place 16 rt ||| place 0 imm

/-- The J format (R112). -/
def jWord (opcode : BitVec 6) (target : BitVec 26) : Word := place 26 opcode ||| place 0 target

/-- The CR format, a coprocessor register move (R112). -/
def crWord (opcode : BitVec 6) (sub rt rd : BitVec 5) : Word :=
  place 26 opcode ||| place 21 sub ||| place 16 rt ||| place 11 rd

/-- A coprocessor operation of COP0: `rs` and `functor` only (R119). -/
def cop0Word (rs : BitVec 5) (functor : BitVec 6) : Word :=
  place 26 0x10#6 ||| place 21 rs ||| place 0 functor

/-- The number of a `mx` selector (R115). -/
def encodeMatrix : MatrixSel → BitVec 2
  | .rt => 0
  | .llm => 1
  | .lcm => 2
  | .garbage => 3

/-- The number of a `vx` selector (R115). -/
def encodeVector : VectorSel → BitVec 2
  | .v0 => 0
  | .v1 => 1
  | .v2 => 2
  | .ir => 3

/-- The number of a `tx` selector (R115). -/
def encodeTranslation : TranslationSel → BitVec 2
  | .tr => 0
  | .bk => 1
  | .fc => 2
  | .none => 3

/-- A GTE command word: the CO format of R112 with the fields of R115, ignored bits zero. -/
def gteWord (sf : Bool) (mx vx tx : BitVec 2) (lm : Bool) (command : BitVec 6) : Word :=
  place 26 0x12#6 ||| place 25 1#1 ||| place 19 (BitVec.ofBool sf) ||| place 17 mx
    ||| place 15 vx ||| place 13 tx ||| place 10 (BitVec.ofBool lm) ||| place 0 command

/-- A GTE command word with only `sf` and `lm`. -/
def gteSfLmWord (sf lm : Bool) (command : BitVec 6) : Word := gteWord sf 0 0 0 lm command

/-- The encoder: the word of an instruction, every ignored bit (R122) zero. -/
def encode : Instr → Word
  | .sll rt rd sa => rWord 0 rt rd sa 0x00
  | .srl rt rd sa => rWord 0 rt rd sa 0x02
  | .sra rt rd sa => rWord 0 rt rd sa 0x03
  | .sllv rs rt rd => rWord rs rt rd 0 0x04
  | .srlv rs rt rd => rWord rs rt rd 0 0x06
  | .srav rs rt rd => rWord rs rt rd 0 0x07
  | .jr rs => rWord rs 0 0 0 0x08
  | .jalr rs rd => rWord rs 0 rd 0 0x09
  | .syscall => rWord 0 0 0 0 0x0C
  | .brk => rWord 0 0 0 0 0x0D
  | .mfhi rd => rWord 0 0 rd 0 0x10
  | .mthi rs => rWord rs 0 0 0 0x11
  | .mflo rd => rWord 0 0 rd 0 0x12
  | .mtlo rs => rWord rs 0 0 0 0x13
  | .mult rs rt => rWord rs rt 0 0 0x18
  | .multu rs rt => rWord rs rt 0 0 0x19
  | .div rs rt => rWord rs rt 0 0 0x1A
  | .divu rs rt => rWord rs rt 0 0 0x1B
  | .add rs rt rd => rWord rs rt rd 0 0x20
  | .addu rs rt rd => rWord rs rt rd 0 0x21
  | .sub rs rt rd => rWord rs rt rd 0 0x22
  | .subu rs rt rd => rWord rs rt rd 0 0x23
  | .and rs rt rd => rWord rs rt rd 0 0x24
  | .or rs rt rd => rWord rs rt rd 0 0x25
  | .xor rs rt rd => rWord rs rt rd 0 0x26
  | .nor rs rt rd => rWord rs rt rd 0 0x27
  | .slt rs rt rd => rWord rs rt rd 0 0x2A
  | .sltu rs rt rd => rWord rs rt rd 0 0x2B
  | .bltz rs imm => iWord 0x01 rs 0x00 imm
  | .bgez rs imm => iWord 0x01 rs 0x01 imm
  | .bltzal rs imm => iWord 0x01 rs 0x10 imm
  | .bgezal rs imm => iWord 0x01 rs 0x11 imm
  | .j target => jWord 0x02 target
  | .jal target => jWord 0x03 target
  | .beq rs rt imm => iWord 0x04 rs rt imm
  | .bne rs rt imm => iWord 0x05 rs rt imm
  | .blez rs imm => iWord 0x06 rs 0 imm
  | .bgtz rs imm => iWord 0x07 rs 0 imm
  | .addi rs rt imm => iWord 0x08 rs rt imm
  | .addiu rs rt imm => iWord 0x09 rs rt imm
  | .slti rs rt imm => iWord 0x0A rs rt imm
  | .sltiu rs rt imm => iWord 0x0B rs rt imm
  | .andi rs rt imm => iWord 0x0C rs rt imm
  | .ori rs rt imm => iWord 0x0D rs rt imm
  | .xori rs rt imm => iWord 0x0E rs rt imm
  | .lui rt imm => iWord 0x0F 0 rt imm
  | .mfc0 rt rd => crWord 0x10 0x00 rt rd
  | .mtc0 rt rd => crWord 0x10 0x04 rt rd
  | .rfe => cop0Word 0x10 0x10
  | .cop0Reserved rs functor => cop0Word rs functor
  | .cop1 => iWord 0x11 0 0 0
  | .mfc2 rt rd => crWord 0x12 0x00 rt rd
  | .cfc2 rt rd => crWord 0x12 0x02 rt rd
  | .mtc2 rt rd => crWord 0x12 0x04 rt rd
  | .ctc2 rt rd => crWord 0x12 0x06 rt rd
  | .cop2Reserved rs => crWord 0x12 rs 0 0
  | .rtps sf lm => gteSfLmWord sf lm 0x01
  | .nclip => gteSfLmWord false false 0x06
  | .op sf lm => gteSfLmWord sf lm 0x0C
  | .dpcs sf lm => gteSfLmWord sf lm 0x10
  | .intpl sf lm => gteSfLmWord sf lm 0x11
  | .mvmva sf mx vx tx lm =>
      gteWord sf (encodeMatrix mx) (encodeVector vx) (encodeTranslation tx) lm 0x12
  | .ncds sf lm => gteSfLmWord sf lm 0x13
  | .cdp sf lm => gteSfLmWord sf lm 0x14
  | .ncdt sf lm => gteSfLmWord sf lm 0x16
  | .nccs sf lm => gteSfLmWord sf lm 0x1B
  | .cc sf lm => gteSfLmWord sf lm 0x1C
  | .ncs sf lm => gteSfLmWord sf lm 0x1E
  | .nct sf lm => gteSfLmWord sf lm 0x20
  | .sqr sf lm => gteSfLmWord sf lm 0x28
  | .dcpl sf lm => gteSfLmWord sf lm 0x29
  | .dpct sf lm => gteSfLmWord sf lm 0x2A
  | .avsz3 => gteSfLmWord false false 0x2D
  | .avsz4 => gteSfLmWord false false 0x2E
  | .rtpt sf lm => gteSfLmWord sf lm 0x30
  | .gpf sf lm => gteSfLmWord sf lm 0x3D
  | .gpl sf lm => gteSfLmWord sf lm 0x3E
  | .ncct sf lm => gteSfLmWord sf lm 0x3F
  | .gteReserved command => gteSfLmWord false false command
  | .cop3 => iWord 0x13 0 0 0
  | .lb rs rt imm => iWord 0x20 rs rt imm
  | .lh rs rt imm => iWord 0x21 rs rt imm
  | .lwl rs rt imm => iWord 0x22 rs rt imm
  | .lw rs rt imm => iWord 0x23 rs rt imm
  | .lbu rs rt imm => iWord 0x24 rs rt imm
  | .lhu rs rt imm => iWord 0x25 rs rt imm
  | .lwr rs rt imm => iWord 0x26 rs rt imm
  | .sb rs rt imm => iWord 0x28 rs rt imm
  | .sh rs rt imm => iWord 0x29 rs rt imm
  | .swl rs rt imm => iWord 0x2A rs rt imm
  | .sw rs rt imm => iWord 0x2B rs rt imm
  | .swr rs rt imm => iWord 0x2E rs rt imm
  | .lwc0 => iWord 0x30 0 0 0
  | .lwc1 => iWord 0x31 0 0 0
  | .lwc2 rs rt imm => iWord 0x32 rs rt imm
  | .lwc3 => iWord 0x33 0 0 0
  | .swc0 => iWord 0x38 0 0 0
  | .swc1 => iWord 0x39 0 0 0
  | .swc2 rs rt imm => iWord 0x3A rs rt imm
  | .swc3 => iWord 0x3B 0 0 0
  | .reserved w => w

end Sys2Proof
end

