-- ==== Sys2Proof/Config.lean ====
section
/-! DEFINITION. What an implementation fixes: the parameters of 00_scope.md R10, each with its type.
Their values are in Machine/Params.lean. `BYTE_ORDER` has no field: the model fixes little-endian,
as decision D1 allows (assumption 3). `CYCLE_WIDTH` is the width of `CycleCount`. -/

namespace Sys2Proof

/-- The step counter, `CYCLE_WIDTH` = 64 bits (R10, R29, decision D13; assumption 9). -/
abbrev CycleCount := BitVec 64

/-- The parameters the spec leaves open (R10). -/
structure Config where
  /-- `RESET_PC` (decision D2). -/
  resetPc : Word
  /-- `PRID_VALUE` (decision D3). -/
  pridValue : Word
  /-- `IRQ_CAUSE_BIT`, the bit of CAUSE the interrupt line drives (decision D5). -/
  irqCauseBit : Nat
  /-- `GTE_SXY2_WRITE_PUSHES` (decision D25). -/
  gteSxy2WritePushes : Bool
  /-- `GTE_DIV_TABLE_SAT_SETS_FLAG` (decision D26). -/
  gteDivTableSatSetsFlag : Bool
  deriving DecidableEq, Repr

end Sys2Proof
end

