-- ==== Sys2Proof/Machine/Params.lean ====
section
/-! DEFINITION. The values of the parameters of 00_scope.md R10 (its defaults), and what a byte of
memory that nothing has written reads as. They stand here, and not in Config.lean, so that a value
a test shows wrong can be mended. -/

namespace Sys2Proof.Machine

/-- The defaults of R10 (assumptions 4 to 8). -/
def config : Config where
  resetPc := 0xBFC00000
  pridValue := 0x00000002
  irqCauseBit := 10
  gteSxy2WritePushes := true
  gteDivTableSatSetsFlag := true

/-- What the bus answers for a byte nothing has written. DESIGN CHOICE, unsafe (assumption 1): the
spec leaves it open (93_implementation_defined.md U20: any value, never a fault). -/
def unlistedByte : Byte := 0x00

end Sys2Proof.Machine
end

