-- ==== Sys2Proof/Machine/State.lean ====
section
/-! DEFINITION. The state of the JarPSX core (10_state.md), its reset values (R75), and the three
outcomes of a step. Everything is plain data. -/

namespace Sys2Proof.Machine

/-- An entry `(register_index, pending_value)` of the load-delay queue (R27). -/
structure LoadEntry where
  reg : RegIdx
  value : Word
  deriving DecidableEq, Repr

/-- The COP0 register bank (R30). -/
structure Cop0 where
  /-- Number 3, breakpoint on execute: storage only (R31). -/
  bpc : Word
  /-- Number 5, breakpoint on data: storage only (R31). -/
  bda : Word
  /-- Number 6, the pending target of a branch whose delay slot trapped (R33). -/
  tar : Word
  /-- Number 7, breakpoint control: storage only (R31). -/
  dcic : Word
  /-- Number 8, the address of the last address error (R32). -/
  badVaddr : Word
  /-- Number 9, data breakpoint mask: storage only (R31). -/
  bdam : Word
  /-- Number 11, execute breakpoint mask: storage only (R31). -/
  bpcm : Word
  /-- Number 12, SR or STATUS (R35). -/
  sr : Word
  /-- Number 13 (R37). -/
  cause : Word
  /-- Number 14, the exception return address (R34). -/
  epc : Word
  /-- Number 15, constant (R45). -/
  prid : Word
  deriving DecidableEq, Repr

/-- A vector of three `s16` (R51). -/
structure Vec16 where
  x : Half
  y : Half
  z : Half
  deriving DecidableEq, Repr

/-- A vector of three `s32` (R63). -/
structure Vec32 where
  x : Word
  y : Word
  z : Word
  deriving DecidableEq, Repr

/-- A 3x3 matrix of `s16`, row then column (R62). -/
structure Mat16 where
  m11 : Half
  m12 : Half
  m13 : Half
  m21 : Half
  m22 : Half
  m23 : Half
  m31 : Half
  m32 : Half
  m33 : Half
  deriving DecidableEq, Repr

/-- An entry of the screen XY FIFO (R55). -/
structure ScreenXY where
  sx : Half
  sy : Half
  deriving DecidableEq, Repr

/-- The stored fields of the GTE register file (R50 to R66). -/
structure Gte where
  v0 : Vec16
  v1 : Vec16
  v2 : Vec16
  /-- `CODE ++ B ++ G ++ R` (R52). -/
  rgbc : Word
  otz : Half
  ir0 : Half
  ir1 : Half
  ir2 : Half
  ir3 : Half
  /-- The oldest entry of the screen XY FIFO (R55). -/
  sxy0 : ScreenXY
  sxy1 : ScreenXY
  /-- The newest entry of the screen XY FIFO (R55). -/
  sxy2 : ScreenXY
  /-- The oldest entry of the screen Z FIFO (R56). -/
  sz0 : Half
  sz1 : Half
  sz2 : Half
  /-- The newest entry of the screen Z FIFO (R56). -/
  sz3 : Half
  /-- The oldest entry of the colour FIFO (R57). -/
  rgb0 : Word
  rgb1 : Word
  /-- The newest entry of the colour FIFO (R57). -/
  rgb2 : Word
  res1 : Word
  mac0 : Word
  mac1 : Word
  mac2 : Word
  mac3 : Word
  lzcs : Word
  /-- The rotation matrix (R62). -/
  rt : Mat16
  /-- The light matrix (R62). -/
  llm : Mat16
  /-- The light colour matrix (R62). -/
  lcm : Mat16
  /-- The translation vector (R63). -/
  tr : Vec32
  /-- The background colour (R63). -/
  bk : Vec32
  /-- The far colour (R63). -/
  fc : Vec32
  ofx : Word
  ofy : Word
  /-- The projection-plane distance, a `u16` (R64). -/
  h : Half
  dqa : Half
  dqb : Word
  zsf3 : Half
  zsf4 : Half
  /-- FLAG: bits 30:12 are stored, the others stay 0 (R66). -/
  flag : Word
  deriving DecidableEq, Repr

/-- Memory as the bus shows it: address and byte pairs, addresses strictly rising, no entry equal
to `unlistedByte` (`Memory.wf`). -/
abbrev Memory := List Host.Cell

/-- A call on the bus port, with what it hands the bus (R80). -/
inductive BusCall where
  | readByte (addr : Word)
  | readHalf (addr : Word)
  | readWord (addr : Word)
  | writeByte (addr : Word) (value : Byte)
  | writeHalf (addr : Word) (value : Half)
  | writeWord (addr : Word) (value : Word)
  deriving DecidableEq, Repr

/-- The state of the core, the memory behind its bus and the levels its interrupt line will have. -/
structure State where
  /-- The general registers; number 0 is never written, so its place stays 0 (R20, R21). -/
  regs : Vector Word 32
  hi : Word
  lo : Word
  pc : Word
  /-- `ld_cur`, the older entry of the load-delay queue (R27). -/
  ldCur : Option LoadEntry
  /-- `ld_next`, the entry enqueued by the executing instruction (R27). -/
  ldNext : Option LoadEntry
  /-- `bd_pending` (R28). -/
  bdPending : Bool
  /-- `bd_target` (R28). -/
  bdTarget : Word
  cycles : CycleCount
  fatal : Bool
  /-- Step-local (R29): the executing instruction wrote SR. -/
  srWritten : Bool
  /-- Step-local (R140): the step's instruction or its fetch trapped. -/
  trapped : Bool
  cop0 : Cop0
  gte : Gte
  mem : Memory
  /-- The level of the interrupt line in each coming step (R540); low when the list has ended. -/
  irqLevels : List Bool
  /-- Step-local: the bus calls of the step so far, oldest first (R89, R91). -/
  busCalls : List BusCall
  deriving DecidableEq, Repr

/-- Why a step stops. -/
inductive Fault where
  /-- Raised by `step` when the core is in the fatal state, from which no step is taken (R149).
  Safe: the hardware changes nothing there. -/
  | coreFatal
  /-- Raised by MFC0 and MTC0 naming a COP0 number with no register (R46, R306): the core enters
  the fatal state. Safe: the spec gives no value and asks for a fault. -/
  | unmappedCop0Register
  /-- Raised by a jump, or a branch whose condition holds, in the delay slot of a taken branch or
  jump (R165, R254): the core enters the fatal state. Safe: the spec gives no value and asks for a
  fault. -/
  | jumpInDelaySlot
  deriving DecidableEq, Repr

/-- Why an instruction has no meaning. -/
inductive Refusal where
  /-- Raised by an arm of `exec` whose instruction has no meaning yet; no arm does. Safe. -/
  | notModelled (mnemonic : String)
  deriving DecidableEq, Repr

/-- What an instruction or a step answers. -/
abbrev Result := Host.Outcome State Fault Refusal

/-- The exception kinds of R501, with what a trap records of them. -/
inductive Exception where
  | interrupt
  | mod
  | tlbl
  | tlbs
  | adel (addr : Word)
  | ades (addr : Word)
  | ibusError
  | dbusError
  | syscall
  | breakpoint
  | reservedInstruction
  | coprocessorUnusable (cop : BitVec 2)
  | arithmeticOverflow
  deriving DecidableEq, Repr

/-- The three lanes of a GTE command (R450). -/
inductive Lane where
  | one | two | three
  deriving DecidableEq, Repr

/-- COP0 after reset: zero but for PRID (R75). -/
def Cop0.reset : Cop0 :=
  { bpc := 0, bda := 0, tar := 0, dcic := 0, badVaddr := 0, bdam := 0, bpcm := 0, sr := 0,
    cause := 0, epc := 0, prid := config.pridValue }

/-- A zero vector (R75). -/
def Vec16.zero : Vec16 := ⟨0, 0, 0⟩

/-- A zero vector (R75). -/
def Vec32.zero : Vec32 := ⟨0, 0, 0⟩

/-- A zero matrix (R75). -/
def Mat16.zero : Mat16 := ⟨0, 0, 0, 0, 0, 0, 0, 0, 0⟩

/-- A zero screen coordinate (R75). -/
def ScreenXY.zero : ScreenXY := ⟨0, 0⟩

/-- The GTE after reset: every stored field zero (R75). -/
def Gte.reset : Gte :=
  { v0 := .zero, v1 := .zero, v2 := .zero, rgbc := 0, otz := 0, ir0 := 0, ir1 := 0, ir2 := 0,
    ir3 := 0, sxy0 := .zero, sxy1 := .zero, sxy2 := .zero, sz0 := 0, sz1 := 0, sz2 := 0, sz3 := 0,
    rgb0 := 0, rgb1 := 0, rgb2 := 0, res1 := 0, mac0 := 0, mac1 := 0, mac2 := 0, mac3 := 0,
    lzcs := 0, rt := .zero, llm := .zero, lcm := .zero, tr := .zero, bk := .zero, fc := .zero,
    ofx := 0, ofy := 0, h := 0, dqa := 0, dqb := 0, zsf3 := 0, zsf4 := 0, flag := 0 }

/-- The core right after reset (R75, R561). The reset values of `trapped`, `busCalls`, `irqLevels`
and `mem` are the model's own (assumptions 1, 10, 16). -/
def State.reset : State :=
  { regs := Vector.replicate 32 0, hi := 0, lo := 0, pc := config.resetPc, ldCur := none,
    ldNext := none, bdPending := false, bdTarget := 0, cycles := 0, fatal := false,
    srWritten := false, trapped := false, cop0 := .reset, gte := .reset, mem := [],
    irqLevels := [], busCalls := [] }

end Sys2Proof.Machine
end

