-- ==== Sys2Proof/Machine/Ops.lean ====
section
/-! DEFINITION. The named operations over registers, the load-delay queue, the branch-delay state,
COP0 and memory; taking an exception (60_exceptions.md R520) and returning from one. -/

namespace Sys2Proof.Machine

/-! ### Memory (20_memory.md R80 to R83) -/

/-- The byte at an address. -/
def Memory.lookup : Memory → Nat → Byte
  | [], _ => unlistedByte
  | (k, v) :: rest, a => if k = a then v else Memory.lookup rest a

/-- Memory with the byte at `a` set to `v`, in canonical form again. -/
def Memory.store : Memory → Nat → Byte → Memory
  | [], a, v => if v = unlistedByte then [] else [(a, v)]
  | (k, w) :: rest, a, v =>
    if a < k then
      if v = unlistedByte then (k, w) :: rest else (a, v) :: (k, w) :: rest
    else if a = k then
      if v = unlistedByte then rest else (a, v) :: rest
    else (k, w) :: Memory.store rest a v

/-- The canonical form of the entries from address `lo` on: addresses strictly rising inside the
32-bit space (R70), no entry equal to what an unlisted address reads as. -/
def Memory.wfFrom : Nat → Memory → Bool
  | _, [] => true
  | lo, (k, v) :: rest =>
    decide (lo ≤ k) && decide (k < 2 ^ 32) && (v != unlistedByte) && Memory.wfFrom (k + 1) rest

/-- The canonical form of memory. -/
def Memory.wf (m : Memory) : Bool := Memory.wfFrom 0 m

/-- `readByte` (R81). -/
def Memory.readByte (m : Memory) (a : Word) : Byte := Memory.lookup m a.toNat

/-- `readHalf`, the byte at the lower address in the low bits (R81, R83). -/
def Memory.readHalf (m : Memory) (a : Word) : Half :=
  (m.readByte a).setWidth 16 ||| ((m.readByte (a + 1)).setWidth 16 <<< 8)

/-- `readWord`, the byte at the lowest address in the low bits (R81, R83). -/
def Memory.readWord (m : Memory) (a : Word) : Word :=
  place 0 (m.readByte a) ||| place 8 (m.readByte (a + 1)) ||| place 16 (m.readByte (a + 2))
    ||| place 24 (m.readByte (a + 3))

/-- `writeByte` (R82). -/
def Memory.writeByte (m : Memory) (a : Word) (v : Byte) : Memory := Memory.store m a.toNat v

/-- `writeHalf` (R82, R83). -/
def Memory.writeHalf (m : Memory) (a : Word) (v : Half) : Memory :=
  (m.writeByte a (v.extractLsb' 0 8)).writeByte (a + 1) (v.extractLsb' 8 8)

/-- `writeWord` (R82, R83). -/
def Memory.writeWord (m : Memory) (a : Word) (v : Word) : Memory :=
  (((m.writeByte a (byteAt 0 v)).writeByte (a + 1) (byteAt 8 v)).writeByte (a + 2)
    (byteAt 16 v)).writeByte (a + 3) (byteAt 24 v)

/-- The state after a bus call is made (R91). -/
def State.noteBus (c : BusCall) (s : State) : State := { s with busCalls := s.busCalls ++ [c] }

/-- `MemWrite(addr, 1, v)` (R82). -/
def State.busWriteByte (a : Word) (v : Byte) (s : State) : State :=
  { s with mem := s.mem.writeByte a v, busCalls := s.busCalls ++ [.writeByte a v] }

/-- `MemWrite(addr, 2, v)` (R82). -/
def State.busWriteHalf (a : Word) (v : Half) (s : State) : State :=
  { s with mem := s.mem.writeHalf a v, busCalls := s.busCalls ++ [.writeHalf a v] }

/-- `MemWrite(addr, 4, v)` (R82). -/
def State.busWriteWord (a : Word) (v : Word) (s : State) : State :=
  { s with mem := s.mem.writeWord a v, busCalls := s.busCalls ++ [.writeWord a v] }

/-! ### General registers and the load-delay queue (40_step_and_dispatch.md R150 to R155) -/

/-- A register number is below 32. -/
theorem regIdx_lt (r : RegIdx) : r.toNat < 32 := r.isLt

/-- The register file with register `r` set; register 0 is left alone (R21). -/
def putReg (regs : Vector Word 32) (r : RegIdx) (v : Word) : Vector Word 32 :=
  if r = 0 then regs else regs.set r.toNat v (regIdx_lt r)

/-- `x[r]`: register 0 reads zero (R21), and the queue is not looked at (R153). -/
def State.readReg (r : RegIdx) (s : State) : Word :=
  if r = 0 then 0 else s.regs[r.toNat]'(regIdx_lt r)

/-- A queue place with an entry for register `r` taken out (R152, R154). -/
def dropLoad (r : RegIdx) (e : Option LoadEntry) : Option LoadEntry := e.filter (fun p => p.reg != r)

/-- The raw store of the commit phase and of the load port: it leaves the queue alone (R155, R570). -/
def State.rawWrite (r : RegIdx) (v : Word) (s : State) : State :=
  { s with regs := putReg s.regs r v }

/-- `x[r] <- v`, the immediate write (R150): it empties `ld_cur` of an entry for `r` (R154). -/
def State.writeReg (r : RegIdx) (v : Word) (s : State) : State :=
  { s with regs := putReg s.regs r v, ldCur := dropLoad r s.ldCur }

/-- `x[r] <-d v`, the delayed write (R151): an older pending entry for `r` is cancelled (R152). -/
def State.delayedWrite (r : RegIdx) (v : Word) (s : State) : State :=
  { s with ldCur := dropLoad r s.ldCur, ldNext := some ⟨r, v⟩ }

/-! ### The program counter and the branch-delay state (R147, R160) -/

/-- `advance` (R147); the sum wraps (R25). -/
def State.advance (s : State) : State := { s with pc := s.pc + 4 }

/-- `setJump(target)` (R160). -/
def State.setJump (target : Word) (s : State) : State :=
  { s with bdTarget := target, bdPending := true }

/-! ### Exceptions (60_exceptions.md) -/

/-- The exception code of a kind (R501). -/
def Exception.code : Exception → BitVec 5
  | .interrupt => 0
  | .mod => 1
  | .tlbl => 2
  | .tlbs => 3
  | .adel _ => 4
  | .ades _ => 5
  | .ibusError => 6
  | .dbusError => 7
  | .syscall => 8
  | .breakpoint => 9
  | .reservedInstruction => 10
  | .coprocessorUnusable _ => 11
  | .arithmeticOverflow => 12

/-- What a trap writes to CAUSE.CE: the coprocessor number, or 0 for every other kind (R520). -/
def Exception.coprocessor : Exception → BitVec 2
  | .coprocessorUnusable c => c
  | .interrupt | .mod | .tlbl | .tlbs | .adel _ | .ades _ | .ibusError | .dbusError | .syscall
  | .breakpoint | .reservedInstruction | .arithmeticOverflow => 0

/-- BadVAddr after a trap: the offending address of an address error, else what it was (R520). -/
def Exception.badAddress (e : Exception) (old : Word) : Word :=
  match e with
  | .adel a => a
  | .ades a => a
  | .interrupt | .mod | .tlbl | .tlbs | .ibusError | .dbusError | .syscall
  | .breakpoint | .reservedInstruction | .coprocessorUnusable _ | .arithmeticOverflow => old

/-- CAUSE after a trap: BD, CE and ExcCode written, the other bits kept (R520). -/
def causeAfterTrap (e : Exception) (bd : Bool) (cause : Word) : Word :=
  (cause &&& 0x4FFFFF83#32) ||| place 31 (BitVec.ofBool bd) ||| place 28 e.coprocessor
    ||| place 2 e.code

/-- The push of the mode stack: `SR[5:0] <- SR[3:0] << 2` (R523). -/
def pushMode (sr : Word) : Word := (sr &&& 0xFFFFFFC0#32) ||| ((sr &&& 0x0000000F#32) <<< 2)

/-- The pop of the mode stack: `SR[3:0] <- SR[5:2]` (R304). -/
def popMode (sr : Word) : Word := (sr &&& 0xFFFFFFF0#32) ||| ((sr >>> 2) &&& 0x0000000F#32)

/-- The general exception vector, selected by SR.BEV, bit 22 (R524). -/
def exceptionVector (sr : Word) : Word := if sr.getLsbD 22 then 0xBFC00180 else 0x80000080

/-- `Trap(E, info)`: trap entry (R520, R521). -/
def State.takeTrap (e : Exception) (s : State) : State :=
  { s with
    cop0 := { s.cop0 with
      epc := if s.bdPending then s.pc - 4 else s.pc
      tar := if s.bdPending then s.bdTarget else s.cop0.tar
      cause := causeAfterTrap e s.bdPending s.cop0.cause
      badVaddr := e.badAddress s.cop0.badVaddr
      sr := pushMode s.cop0.sr }
    bdPending := false
    pc := exceptionVector s.cop0.sr }

/-- The trap of an instruction or of its fetch: trap entry, with the step marked trapped (R140). -/
def State.raised (e : Exception) (s : State) : State := { s.takeTrap e with trapped := true }

/-- `raise E(info)` in a handler: nothing but the trap is done (R14, R148). -/
def raise (e : Exception) (s : State) : Result := .next (s.raised e)

/-- What RFE does to the state: the pop, noted as a write of SR (R304). -/
def State.popStatus (s : State) : State :=
  { s with cop0 := { s.cop0 with sr := popMode s.cop0.sr }, srWritten := true }

/-! ### COP0 (10_state.md R30 to R46; 60_exceptions.md R541, R551) -/

/-- COP0 is usable in kernel mode (KUc, bit 1, clear) or with CU0, bit 28, set (R551). -/
def State.cop0Usable (s : State) : Bool := !s.cop0.sr.getLsbD 1 || s.cop0.sr.getLsbD 28

/-- The GTE is usable with CU2, bit 30, set (R551). -/
def State.gteUsable (s : State) : Bool := s.cop0.sr.getLsbD 30

/-- The interrupt condition: IEc, bit 0, and an enabled pending bit in 15:8 (R541). -/
def State.interruptPending (s : State) : Bool :=
  s.cop0.sr.getLsbD 0 && (s.cop0.sr &&& s.cop0.cause &&& 0x0000FF00#32) != 0

/-- The register with a COP0 number; none where the number is unmapped (R30, R46). -/
def Cop0.read (n : RegIdx) (c : Cop0) : Option Word :=
  match n with
  | 3#5 => some c.bpc
  | 5#5 => some c.bda
  | 6#5 => some c.tar
  | 7#5 => some c.dcic
  | 8#5 => some c.badVaddr
  | 9#5 => some c.bdam
  | 11#5 => some c.bpcm
  | 12#5 => some c.sr
  | 13#5 => some c.cause
  | 14#5 => some c.epc
  | 15#5 => some c.prid
  | _ => none

/-- The bank after MTC0 writes `v` to a COP0 number, each register with its own mask (R30, R305);
none where the number is unmapped (R46). -/
def Cop0.write (n : RegIdx) (v : Word) (c : Cop0) : Option Cop0 :=
  match n with
  | 3#5 => some { c with bpc := v }
  | 5#5 => some { c with bda := v }
  | 6#5 => some c
  | 7#5 => some { c with dcic := v }
  | 8#5 => some c
  | 9#5 => some { c with bdam := v }
  | 11#5 => some { c with bpcm := v }
  | 12#5 => some { c with sr := v }
  | 13#5 => some { c with cause := (c.cause &&& 0xFFFFFCFF#32) ||| (v &&& 0x00000300#32) }
  | 14#5 => some c
  | 15#5 => some c
  | _ => none

/-! ### The load port -/

/-- The load port sets the program counter (R570). -/
def State.loadPc (v : Word) (s : State) : State := { s with pc := v }

/-- The load port sets a general register, past the load-delay queue (R570). -/
def State.loadReg (r : RegIdx) (v : Word) (s : State) : State := s.rawWrite r v

/-- When the load port may be used: no branch pending and an empty queue (R570). -/
def State.loadPortOpen (s : State) : Bool :=
  !s.bdPending && s.ldCur.isNone && s.ldNext.isNone

end Sys2Proof.Machine
end

