-- ==== Sys2Proof/Machine/Operands.lean ====
section
/-! DEFINITION. The operand forms of 30_encoding.md R114, the lane selection of the unaligned loads
and stores (44_load_store.md R280 to R289), and the alignment tests of 20_memory.md R86. -/

namespace Sys2Proof.Machine

/-- `u32(sext_16(imm16))` (R114). -/
def signImm (imm : BitVec 16) : Word := imm.signExtend 32

/-- `zext_16(imm16)` (R114). -/
def zeroImm (imm : BitVec 16) : Word := imm.setWidth 32

/-- `imm16 << 16` (R114). -/
def upperImm (imm : BitVec 16) : Word := imm.setWidth 32 <<< 16

/-- The branch target, counted in words from the delay slot (R114). -/
def branchTarget (imm : BitVec 16) (s : State) : Word := s.pc + 4 + (signImm imm <<< 2)

/-- The target of J and JAL, in the 256 MB region of the delay slot (R114). -/
def jumpTarget (target : BitVec 26) (s : State) : Word :=
  ((s.pc + 4) &&& 0xF0000000#32) ||| (target.setWidth 32 <<< 2)

/-- The link value, the address after the delay slot (R162). -/
def linkValue (s : State) : Word := s.pc + 8

/-- The effective address of a load or store (R270). -/
def effectiveAddress (rs : RegIdx) (imm : BitVec 16) (s : State) : Word := s.readReg rs + signImm imm

/-- The shift amount of a variable shift, `x[rs][4:0]` (R114). -/
def variableShift (rs : RegIdx) (s : State) : BitVec 5 := (s.readReg rs).extractLsb' 0 5

/-- A halfword access to `a` is misaligned (R86). -/
def misalignedHalf (a : Word) : Bool := a.getLsbD 0

/-- A word access to `a`, or a fetch from it, is misaligned (R86). -/
def misalignedWord (a : Word) : Bool := a.getLsbD 0 || a.getLsbD 1

/-- The aligned word that holds `a`, `a & 0xFFFFFFFC` (R86). -/
def alignedWord (a : Word) : Word := a &&& 0xFFFFFFFC#32

/-- `k = addr[1:0]`, the byte lane of an address (R281). -/
def laneOf (a : Word) : BitVec 2 := a.extractLsb' 0 2

/-- The value LWL and LWR merge into: the pending value of their own destination, else the
register's (R280). -/
def mergeOperand (rt : RegIdx) (s : State) : Word :=
  match s.ldCur with
  | some p => if p.reg = rt then p.value else s.readReg rt
  | none => s.readReg rt

/-- The lanes of LWL (R281). -/
def lwlMerge (k : BitVec 2) (m old : Word) : Word :=
  match k with
  | 0#2 => (m <<< 24) ||| (old &&& 0x00FFFFFF#32)
  | 1#2 => (m <<< 16) ||| (old &&& 0x0000FFFF#32)
  | 2#2 => (m <<< 8) ||| (old &&& 0x000000FF#32)
  | _ => m

/-- The lanes of LWR (R282). -/
def lwrMerge (k : BitVec 2) (m old : Word) : Word :=
  match k with
  | 0#2 => m
  | 1#2 => (old &&& 0xFF000000#32) ||| (m >>> 8)
  | 2#2 => (old &&& 0xFFFF0000#32) ||| (m >>> 16)
  | _ => (old &&& 0xFFFFFF00#32) ||| (m >>> 24)

/-- The lanes of SWL: the word to store over `m` (R288). -/
def swlMerge (k : BitVec 2) (m v : Word) : Word :=
  match k with
  | 0#2 => (m &&& 0xFFFFFF00#32) ||| (v >>> 24)
  | 1#2 => (m &&& 0xFFFF0000#32) ||| (v >>> 16)
  | 2#2 => (m &&& 0xFF000000#32) ||| (v >>> 8)
  | _ => v

/-- The lanes of SWR: the word to store over `m` (R289). -/
def swrMerge (k : BitVec 2) (m v : Word) : Word :=
  match k with
  | 0#2 => v
  | 1#2 => (v <<< 8) ||| (m &&& 0x000000FF#32)
  | 2#2 => (v <<< 16) ||| (m &&& 0x0000FFFF#32)
  | _ => (v <<< 24) ||| (m &&& 0x00FFFFFF#32)

end Sys2Proof.Machine
end

