-- ==== Sys2Proof/Machine/Flags.lean ====
section
/-! DEFINITION. Every flag computation of the spec. The CPU has no flags (10_state.md R26); signed
overflow is a trap condition (41_alu.md R181). The GTE's FLAG (R66) is set by the accumulator checks
and the limiters of 47_gte_primitives.md, which are here whole. -/

namespace Sys2Proof.Machine

/-- An exact result lies outside the signed 32-bit range (R181). -/
def overflows32 (r : Int) : Bool := decide (r > 0x7FFFFFFF) || decide (r < -0x80000000)

/-! ### FLAG through the port (46_cop2_transfer.md R371) -/

/-- The bits of FLAG that are stored, 30:12. -/
def flagStored : Word := 0x7FFFF000

/-- The bits of FLAG that feed bit 31: 30:23 and 18:13. -/
def flagErrors : Word := 0x7F87E000

/-- What a port write stores in FLAG. -/
def flagWritten (v : Word) : Word := v &&& flagStored

/-- What a port read of FLAG returns: bit 31 is recomputed. -/
def flagRead (f : Word) : Word :=
  (f &&& flagStored) ||| (if f &&& flagErrors = 0 then 0 else 0x80000000#32)

/-! ### Setting a flag bit -/

/-- `flag(b)` where `c` holds; flags are sticky within a command (R400). -/
def Gte.raiseFlag (c : Bool) (b : Nat) (g : Gte) : Gte :=
  { g with flag := if c then g.flag ||| (1#32 <<< b) else g.flag }

/-- `i` of a lane, 1 to 3. -/
def Lane.number : Lane → Nat
  | .one => 1
  | .two => 2
  | .three => 3

/-- `clamp(v, lo, hi)` (R12). -/
def clamp (lo hi v : Int) : Int := min (max v lo) hi

/-- `v` lies outside `lo` to `hi`. -/
def outside (lo hi v : Int) : Bool := decide (v < lo) || decide (v > hi)

/-! ### Accumulator checks -/

/-- `chk0(x)`: the MAC0 overflow check (R403). -/
def Gte.checkMac0 (x : Int) (g : Gte) : Gte :=
  (g.raiseFlag (decide (x > 0x7FFFFFFF)) 16).raiseFlag (decide (x < -0x80000000)) 15

/-- The 44-bit check of a MAC lane, without the wrap (R404, R405). -/
def Gte.checkMac (l : Lane) (x : Int) (g : Gte) : Gte :=
  (g.raiseFlag (decide (x > 2 ^ 43 - 1)) (31 - l.number)).raiseFlag (decide (x < -(2 ^ 43)))
    (28 - l.number)

/-- `sext_44(x)`, the wrap of `A_i` (R404). -/
def wrap44 (x : Int) : Int := (BitVec.ofInt 44 x).toInt

/-- `s32(x)` (R12). -/
def wrap32 (x : Int) : Int := (BitVec.ofInt 32 x).toInt

/-! ### Limiters: the value, and the flag -/

/-- The floor of limA: 0 with `lm`, else -0x8000 (R410). -/
def irFloor (lm : Bool) : Int := if lm then 0 else -0x8000

/-- The value of limA (R410). -/
def limA (lm : Bool) (v : Int) : Int := clamp (irFloor lm) 0x7FFF v

/-- The flag of limA: bits 24, 23, 22 for lanes 1, 2, 3 (R410). -/
def Gte.flagA (l : Lane) (lm : Bool) (v : Int) (g : Gte) : Gte :=
  g.raiseFlag (outside (irFloor lm) 0x7FFF v) (25 - l.number)

/-- The value of limB, a colour component (R411). -/
def limB (v : Int) : Int := clamp 0 0xFF v

/-- The flag of limB: bits 21, 20, 19 for R, G, B (R411). -/
def Gte.flagB (l : Lane) (v : Int) (g : Gte) : Gte :=
  g.raiseFlag (outside 0 0xFF v) (22 - l.number)

/-- The value of limC, an average or screen Z (R412). -/
def limC (v : Int) : Int := clamp 0 0xFFFF v

/-- The flag of limC, bit 18 (R412). -/
def Gte.flagC (v : Int) (g : Gte) : Gte := g.raiseFlag (outside 0 0xFFFF v) 18

/-- The value of limD, a screen coordinate (R414). -/
def limD (v : Int) : Int := clamp (-0x400) 0x3FF v

/-- The flags of limD: bit 14 for X, bit 13 for Y (R414). -/
def Gte.flagD (x y : Int) (g : Gte) : Gte :=
  (g.raiseFlag (outside (-0x400) 0x3FF x) 14).raiseFlag (outside (-0x400) 0x3FF y) 13

/-- The value of limE, the interpolation factor (R413). -/
def limE (v : Int) : Int := clamp 0 0x1000 v

/-- The flag of limE, bit 12 (R413). -/
def Gte.flagE (v : Int) (g : Gte) : Gte := g.raiseFlag (outside 0 0x1000 v) 12

end Sys2Proof.Machine
end

