-- ==== Sys2Proof/Machine/Branch.lean ====
section
/-! DEFINITION. The meanings of 43_branch_jump.md. A taken branch or jump records its target and
advances to its delay slot (R240); in the delay slot of another it is fatal, with no change at all
(R165, R254). Every condition and target is read before the link is written (R244, R251). -/

namespace Sys2Proof.Machine

/-- The link write at issue (R162): an immediate write of `cur + 8`, for the forms that link. -/
def link (rd : Option RegIdx) (s : State) : State :=
  match rd with
  | some r => s.writeReg r (linkValue s)
  | none => s

/-- A control transfer to `target`, taken where `c` holds, linking in `rd` either way (R240). -/
def transfer (c : Bool) (target : Word) (rd : Option RegIdx) (s : State) : Result :=
  if c then
    if s.bdPending then .fault .jumpInDelaySlot else .next ((link rd s).setJump target).advance
  else .next (link rd s).advance

/-- `s32(x) < 0`. -/
def isNegative (x : Word) : Bool := x.slt 0

/-- R241. -/
def execJ (target : BitVec 26) (s : State) : Result := transfer true (jumpTarget target s) none s

/-- R242. -/
def execJal (target : BitVec 26) (s : State) : Result :=
  transfer true (jumpTarget target s) (some 31) s

/-- R243. -/
def execJr (rs : RegIdx) (s : State) : Result := transfer true (s.readReg rs) none s

/-- R244. -/
def execJalr (rs rd : RegIdx) (s : State) : Result := transfer true (s.readReg rs) (some rd) s

/-- R245. -/
def execBeq (rs rt : RegIdx) (imm : BitVec 16) (s : State) : Result :=
  transfer (s.readReg rs == s.readReg rt) (branchTarget imm s) none s

/-- R246. -/
def execBne (rs rt : RegIdx) (imm : BitVec 16) (s : State) : Result :=
  transfer (s.readReg rs != s.readReg rt) (branchTarget imm s) none s

/-- R247. -/
def execBlez (rs : RegIdx) (imm : BitVec 16) (s : State) : Result :=
  transfer ((s.readReg rs).sle 0) (branchTarget imm s) none s

/-- R248. -/
def execBgtz (rs : RegIdx) (imm : BitVec 16) (s : State) : Result :=
  transfer (!(s.readReg rs).sle 0) (branchTarget imm s) none s

/-- R249. -/
def execBltz (rs : RegIdx) (imm : BitVec 16) (s : State) : Result :=
  transfer (isNegative (s.readReg rs)) (branchTarget imm s) none s

/-- R250. -/
def execBgez (rs : RegIdx) (imm : BitVec 16) (s : State) : Result :=
  transfer (!isNegative (s.readReg rs)) (branchTarget imm s) none s

/-- R251. -/
def execBltzal (rs : RegIdx) (imm : BitVec 16) (s : State) : Result :=
  transfer (isNegative (s.readReg rs)) (branchTarget imm s) (some 31) s

/-- R252. -/
def execBgezal (rs : RegIdx) (imm : BitVec 16) (s : State) : Result :=
  transfer (!isNegative (s.readReg rs)) (branchTarget imm s) (some 31) s

end Sys2Proof.Machine
end

