-- ==== Sys2Proof/Machine/GteArith.lean ====
section
/-! DEFINITION. The arithmetic of 47_gte_primitives.md: the stores to MAC and IR, the FIFO pushes, the
reciprocal divider, and the matrix and interpolation blocks. Values are exact integers; a narrowing
stands only where a primitive has one (R400). The checks and limiters are in Flags.lean. -/

namespace Sys2Proof.Machine

/-! ### Lanes and operand vectors (R427) -/

/-- Three exact values, one for each lane. -/
structure IVec where
  x : Int
  y : Int
  z : Int
  deriving DecidableEq, Repr

/-- The value of a lane. -/
def IVec.at (l : Lane) (v : IVec) : Int :=
  match l with
  | .one => v.x
  | .two => v.y
  | .three => v.z

/-- A vector of `s16` as exact values. -/
def Vec16.toIVec (v : Vec16) : IVec := ⟨v.x.toInt, v.y.toInt, v.z.toInt⟩

/-- A vector of `s32` as exact values. -/
def Vec32.toIVec (v : Vec32) : IVec := ⟨v.x.toInt, v.y.toInt, v.z.toInt⟩

/-- The three rows of a matrix operand. -/
structure IMat where
  r1 : IVec
  r2 : IVec
  r3 : IVec
  deriving DecidableEq, Repr

/-- The row of a lane. -/
def IMat.row (l : Lane) (m : IMat) : IVec :=
  match l with
  | .one => m.r1
  | .two => m.r2
  | .three => m.r3

/-- A matrix of `s16` as exact values. -/
def Mat16.toIMat (m : Mat16) : IMat :=
  ⟨⟨m.m11.toInt, m.m12.toInt, m.m13.toInt⟩, ⟨m.m21.toInt, m.m22.toInt, m.m23.toInt⟩,
    ⟨m.m31.toInt, m.m32.toInt, m.m33.toInt⟩⟩

/-- `sh`, the shift of `sf` (R400). -/
def shiftOf (sf : Bool) : Nat := if sf then 12 else 0

/-- `x << n` on an exact value. -/
def shl (x : Int) (n : Nat) : Int := x * 2 ^ n

/-- `IR1`, `IR2` or `IR3`. -/
def Gte.irAt (l : Lane) (g : Gte) : Int :=
  match l with
  | .one => g.ir1.toInt
  | .two => g.ir2.toInt
  | .three => g.ir3.toInt

/-- The IR triplet. -/
def Gte.irVec (g : Gte) : IVec := ⟨g.ir1.toInt, g.ir2.toInt, g.ir3.toInt⟩

/-- `MAC1`, `MAC2` or `MAC3`. -/
def Gte.macAt (l : Lane) (g : Gte) : Int :=
  match l with
  | .one => g.mac1.toInt
  | .two => g.mac2.toInt
  | .three => g.mac3.toInt

/-- The MAC triplet. -/
def Gte.macVec (g : Gte) : IVec := ⟨g.mac1.toInt, g.mac2.toInt, g.mac3.toInt⟩

/-- The low three bytes of a colour word, R, G, B (R52, R57). -/
def colours (w : Word) : IVec := ⟨(byteAt 0 w).toNat, (byteAt 8 w).toNat, (byteAt 16 w).toNat⟩

/-- A MAC lane replaced. -/
def Gte.putMac (l : Lane) (v : Word) (g : Gte) : Gte :=
  { g with
    mac1 := if l = .one then v else g.mac1
    mac2 := if l = .two then v else g.mac2
    mac3 := if l = .three then v else g.mac3 }

/-- An IR lane replaced. -/
def Gte.putIr (l : Lane) (v : Half) (g : Gte) : Gte :=
  { g with
    ir1 := if l = .one then v else g.ir1
    ir2 := if l = .two then v else g.ir2
    ir3 := if l = .three then v else g.ir3 }

/-! ### Stores (R405 to R407) -/

/-- `setMAC_i(x, s)` (R405). -/
def Gte.setMac (l : Lane) (x : Int) (s : Nat) (g : Gte) : Gte :=
  (g.checkMac l x).putMac l (BitVec.ofInt 32 (x >>> s))

/-- `setMAC_0(x)` (R406). -/
def Gte.setMac0 (x : Int) (g : Gte) : Gte := { g.checkMac0 x with mac0 := BitVec.ofInt 32 x }

/-- `setIR_i(v, lm)` for the three lanes (R407). -/
def Gte.setIr (l : Lane) (v : Int) (lm : Bool) (g : Gte) : Gte :=
  (g.flagA l lm v).putIr l (BitVec.ofInt 16 (limA lm v))

/-- `setIR_0(v)` (R407). -/
def Gte.setIr0 (v : Int) (g : Gte) : Gte := { g.flagE v with ir0 := BitVec.ofInt 16 (limE v) }

/-- `setMACIR_i(x, s, lm)`: the IR value comes from the 32 bits just stored in MAC (R407). -/
def Gte.setMacIr (l : Lane) (x : Int) (s : Nat) (lm : Bool) (g : Gte) : Gte :=
  (g.setMac l x s).setIr l (wrap32 (x >>> s)) lm

/-- `for i in 1, 2, 3`. -/
def Gte.forLanes (f : Lane → Gte → Gte) (g : Gte) : Gte := f .three (f .two (f .one g))

/-! ### FIFO pushes (R415 to R417) -/

/-- `pushSZ(v)` (R415). -/
def Gte.pushSz (v : Int) (g : Gte) : Gte :=
  { g.flagC v with sz0 := g.sz1, sz1 := g.sz2, sz2 := g.sz3, sz3 := BitVec.ofInt 16 (limC v) }

/-- `pushSXY(x, y)` (R416). -/
def Gte.pushSxy (x y : Int) (g : Gte) : Gte :=
  { g.flagD x y with
    sxy0 := g.sxy1
    sxy1 := g.sxy2
    sxy2 := ⟨BitVec.ofInt 16 (limD x), BitVec.ofInt 16 (limD y)⟩ }

/-- The colour word `pushRGB` makes: MAC1 to MAC3 shifted by 4 and limited, CODE from RGBC (R417). -/
def Gte.colourWord (g : Gte) : Word :=
  (g.rgbc &&& 0xFF000000#32) ||| place 16 (BitVec.ofInt 8 (limB (g.mac3.toInt >>> 4)))
    ||| place 8 (BitVec.ofInt 8 (limB (g.mac2.toInt >>> 4)))
    ||| place 0 (BitVec.ofInt 8 (limB (g.mac1.toInt >>> 4)))

/-- `pushRGB()` (R417). -/
def Gte.pushRgb (g : Gte) : Gte :=
  { ((g.flagB .one (g.mac1.toInt >>> 4)).flagB .two (g.mac2.toInt >>> 4)).flagB .three
      (g.mac3.toInt >>> 4) with
    rgb0 := g.rgb1
    rgb1 := g.rgb2
    rgb2 := g.colourWord }

/-! ### The reciprocal divider (R420, R421) -/

/-- The number of leading zero bits of `v` as a value of the given width. -/
def leadingZeros : Nat → Nat → Nat
  | 0, _ => 0
  | width + 1, v => if v.testBit width then 0 else 1 + leadingZeros width v

/-- The table `UNR`, by its formula (R421). The entries are natural numbers, so the subtraction stops
at 0 as the formula asks. -/
def unr (i : Nat) : Nat := (0x40000 / (i + 0x100) + 1) / 2 - 0x101

/-- The value of the table path of `Divide`, before the saturation (R420). -/
def divideTable (n d : Nat) : Nat :=
  let z := leadingZeros 16 d
  let n1 := n * 2 ^ z
  let d1 := d * 2 ^ z
  let u := unr ((d1 - 0x7FC0) / 2 ^ 7) + 0x101
  let t := (0x2000080 - d1 * u) / 2 ^ 8
  let r := (0x0000080 + t * u) / 2 ^ 8
  (n1 * r + 0x8000) / 2 ^ 16

/-- `Divide(n, d)`: the result, and whether it sets flag 17 (R420). -/
def divide (tableSatSetsFlag : Bool) (n d : Nat) : Nat × Bool :=
  if n ≥ 2 * d then (0x1FFFF, true)
  else if divideTable n d > 0x1FFFF then (0x1FFFF, tableSatSetsFlag)
  else (divideTable n d, false)

/-! ### Matrix and interpolation blocks (R425, R426) -/

/-- The value `x` of a row of `MulMat`, with the wraps of `A_i` (R425). -/
def rowValue (t : Option Int) (m v : IVec) : Int :=
  match t with
  | none => wrap44 (m.x * v.x + m.y * v.y) + m.z * v.z
  | some t => wrap44 (wrap44 (shl t 12 + m.x * v.x) + m.y * v.y) + m.z * v.z

/-- The flags the `A_i` of a row of `MulMat` set (R425). -/
def Gte.checkRow (l : Lane) (t : Option Int) (m v : IVec) (g : Gte) : Gte :=
  match t with
  | none => g.checkMac l (m.x * v.x + m.y * v.y)
  | some t =>
    (g.checkMac l (shl t 12 + m.x * v.x)).checkMac l (wrap44 (shl t 12 + m.x * v.x) + m.y * v.y)

/-- `MulMat(M, T, v, lm)` (R425); `v` is a value, read before any IR is written. -/
def Gte.mulMat (m : IMat) (t : Option IVec) (v : IVec) (sh : Nat) (lm : Bool) (g : Gte) : Gte :=
  g.forLanes fun l g =>
    (g.checkRow l (t.map (IVec.at l)) (m.row l) v).setMacIr l
      (rowValue (t.map (IVec.at l)) (m.row l) v) sh lm

/-- The first pass of `Interp`, with `lm` forced to 0 (R426). -/
def Gte.interpFar (m : IVec) (sh : Nat) (g : Gte) : Gte :=
  g.forLanes fun l g => g.setMacIr l (shl (g.fc.toIVec.at l) 12 - m.at l) sh false

/-- The second pass of `Interp` (R426). -/
def Gte.interpNear (m : IVec) (sh : Nat) (lm : Bool) (g : Gte) : Gte :=
  g.forLanes fun l g => g.setMacIr l (g.irAt l * g.ir0.toInt + m.at l) sh lm

/-- `Interp(m, lm)` (R426). -/
def Gte.interp (m : IVec) (sh : Nat) (lm : Bool) (g : Gte) : Gte :=
  (g.interpFar m sh).interpNear m sh lm

end Sys2Proof.Machine
end

