-- ==== Sys2Proof/Machine/Port.lean ====
section
/-! DEFINITION. The register port of the GTE (46_cop2_transfer.md R340 to R371): what a read of each
number returns and what a write of it stores. The commands do not use it. -/

namespace Sys2Proof.Machine

/-- `hi ++ lo`, two halves in one word. -/
def pack (lo hi : Half) : Word := place 0 lo ||| place 16 hi

/-- The low half of a word. -/
def lowHalf (v : Word) : Half := v.extractLsb' 0 16

/-- The high half of a word. -/
def highHalf (v : Word) : Half := v.extractLsb' 16 16

/-- The word of a screen coordinate, `SY ++ SX` (R55). -/
def ScreenXY.toWord (p : ScreenXY) : Word := pack p.sx p.sy

/-- The screen coordinate a word holds (R350). -/
def ScreenXY.ofWord (v : Word) : ScreenXY := ⟨lowHalf v, highHalf v⟩

/-- A five-bit component of IRGB and ORGB (R361). -/
def packedComponent (ir : Half) : BitVec 5 := BitVec.ofInt 5 (clamp 0 0x1F (ir.toInt >>> 7))

/-- What numbers 28 and 29 read (R361). -/
def Gte.packedColour (g : Gte) : Word :=
  place 0 (packedComponent g.ir1) ||| place 5 (packedComponent g.ir2)
    ||| place 10 (packedComponent g.ir3)

/-- What a write of number 28 makes of a five-bit field (R362). -/
def unpackedComponent (lo : Nat) (v : Word) : Half := (v.extractLsb' lo 5).setWidth 16 <<< 7

/-- What number 31 reads: the leading bits of LZCS equal to its sign (R364). -/
def leadingSigns (v : Word) : Word :=
  BitVec.ofNat 32 (leadingZeros 32 (if v.getLsbD 31 then ~~~v else v).toNat)

/-- The FIFO move of a write of number 15, and of 14 where the parameter says so (R352, R353). -/
def Gte.portPushSxy (v : Word) (g : Gte) : Gte :=
  { g with sxy0 := g.sxy1, sxy1 := g.sxy2, sxy2 := .ofWord v }

/-- What the five registers of a matrix read (R62, R365). -/
def Mat16.portRead (k : Nat) (m : Mat16) : Word :=
  match k with
  | 0 => pack m.m11 m.m12
  | 1 => pack m.m13 m.m21
  | 2 => pack m.m22 m.m23
  | 3 => pack m.m31 m.m32
  | _ => m.m33.signExtend 32

/-- What a write of the five registers of a matrix stores (R62, R365). -/
def Mat16.portWrite (k : Nat) (v : Word) (m : Mat16) : Mat16 :=
  match k with
  | 0 => { m with m11 := lowHalf v, m12 := highHalf v }
  | 1 => { m with m13 := lowHalf v, m21 := highHalf v }
  | 2 => { m with m22 := lowHalf v, m23 := highHalf v }
  | 3 => { m with m31 := lowHalf v, m32 := highHalf v }
  | _ => { m with m33 := lowHalf v }

/-- `g[n]`, a port read (R340 to R371). -/
def Gte.portRead (n : BitVec 6) (g : Gte) : Word :=
  match n with
  | 0#6 => pack g.v0.x g.v0.y
  | 1#6 => g.v0.z.signExtend 32
  | 2#6 => pack g.v1.x g.v1.y
  | 3#6 => g.v1.z.signExtend 32
  | 4#6 => pack g.v2.x g.v2.y
  | 5#6 => g.v2.z.signExtend 32
  | 6#6 => g.rgbc
  | 7#6 => g.otz.setWidth 32
  | 8#6 => g.ir0.signExtend 32
  | 9#6 => g.ir1.signExtend 32
  | 10#6 => g.ir2.signExtend 32
  | 11#6 => g.ir3.signExtend 32
  | 12#6 => g.sxy0.toWord
  | 13#6 => g.sxy1.toWord
  | 14#6 => g.sxy2.toWord
  | 15#6 => g.sxy2.toWord
  | 16#6 => g.sz0.setWidth 32
  | 17#6 => g.sz1.setWidth 32
  | 18#6 => g.sz2.setWidth 32
  | 19#6 => g.sz3.setWidth 32
  | 20#6 => g.rgb0
  | 21#6 => g.rgb1
  | 22#6 => g.rgb2
  | 23#6 => g.res1
  | 24#6 => g.mac0
  | 25#6 => g.mac1
  | 26#6 => g.mac2
  | 27#6 => g.mac3
  | 28#6 => g.packedColour
  | 29#6 => g.packedColour
  | 30#6 => g.lzcs
  | 31#6 => leadingSigns g.lzcs
  | 32#6 => g.rt.portRead 0
  | 33#6 => g.rt.portRead 1
  | 34#6 => g.rt.portRead 2
  | 35#6 => g.rt.portRead 3
  | 36#6 => g.rt.portRead 4
  | 37#6 => g.tr.x
  | 38#6 => g.tr.y
  | 39#6 => g.tr.z
  | 40#6 => g.llm.portRead 0
  | 41#6 => g.llm.portRead 1
  | 42#6 => g.llm.portRead 2
  | 43#6 => g.llm.portRead 3
  | 44#6 => g.llm.portRead 4
  | 45#6 => g.bk.x
  | 46#6 => g.bk.y
  | 47#6 => g.bk.z
  | 48#6 => g.lcm.portRead 0
  | 49#6 => g.lcm.portRead 1
  | 50#6 => g.lcm.portRead 2
  | 51#6 => g.lcm.portRead 3
  | 52#6 => g.lcm.portRead 4
  | 53#6 => g.fc.x
  | 54#6 => g.fc.y
  | 55#6 => g.fc.z
  | 56#6 => g.ofx
  | 57#6 => g.ofy
  -- the quirk of R368: H is unsigned, and sign-extended on a read
  | 58#6 => g.h.signExtend 32
  | 59#6 => g.dqa.signExtend 32
  | 60#6 => g.dqb
  | 61#6 => g.zsf3.signExtend 32
  | 62#6 => g.zsf4.signExtend 32
  | _ => flagRead g.flag

/-- `g[n] <- v`, a port write (R340 to R371); `pushes` is `GTE_SXY2_WRITE_PUSHES` (R352). -/
def Gte.portWrite (pushes : Bool) (n : BitVec 6) (v : Word) (g : Gte) : Gte :=
  match n with
  | 0#6 => { g with v0 := { g.v0 with x := lowHalf v, y := highHalf v } }
  | 1#6 => { g with v0 := { g.v0 with z := lowHalf v } }
  | 2#6 => { g with v1 := { g.v1 with x := lowHalf v, y := highHalf v } }
  | 3#6 => { g with v1 := { g.v1 with z := lowHalf v } }
  | 4#6 => { g with v2 := { g.v2 with x := lowHalf v, y := highHalf v } }
  | 5#6 => { g with v2 := { g.v2 with z := lowHalf v } }
  | 6#6 => { g with rgbc := v }
  | 7#6 => { g with otz := lowHalf v }
  | 8#6 => { g with ir0 := lowHalf v }
  | 9#6 => { g with ir1 := lowHalf v }
  | 10#6 => { g with ir2 := lowHalf v }
  | 11#6 => { g with ir3 := lowHalf v }
  | 12#6 => { g with sxy0 := .ofWord v }
  | 13#6 => { g with sxy1 := .ofWord v }
  | 14#6 => if pushes then g.portPushSxy v else { g with sxy2 := .ofWord v }
  | 15#6 => g.portPushSxy v
  | 16#6 => { g with sz0 := lowHalf v }
  | 17#6 => { g with sz1 := lowHalf v }
  | 18#6 => { g with sz2 := lowHalf v }
  | 19#6 => { g with sz3 := lowHalf v }
  | 20#6 => { g with rgb0 := v }
  | 21#6 => { g with rgb1 := v }
  | 22#6 => { g with rgb2 := v }
  | 23#6 => { g with res1 := v }
  | 24#6 => { g with mac0 := v }
  | 25#6 => { g with mac1 := v }
  | 26#6 => { g with mac2 := v }
  | 27#6 => { g with mac3 := v }
  | 28#6 => { g with
      ir1 := unpackedComponent 0 v, ir2 := unpackedComponent 5 v, ir3 := unpackedComponent 10 v }
  | 29#6 => g
  | 30#6 => { g with lzcs := v }
  | 31#6 => g
  | 32#6 => { g with rt := g.rt.portWrite 0 v }
  | 33#6 => { g with rt := g.rt.portWrite 1 v }
  | 34#6 => { g with rt := g.rt.portWrite 2 v }
  | 35#6 => { g with rt := g.rt.portWrite 3 v }
  | 36#6 => { g with rt := g.rt.portWrite 4 v }
  | 37#6 => { g with tr := { g.tr with x := v } }
  | 38#6 => { g with tr := { g.tr with y := v } }
  | 39#6 => { g with tr := { g.tr with z := v } }
  | 40#6 => { g with llm := g.llm.portWrite 0 v }
  | 41#6 => { g with llm := g.llm.portWrite 1 v }
  | 42#6 => { g with llm := g.llm.portWrite 2 v }
  | 43#6 => { g with llm := g.llm.portWrite 3 v }
  | 44#6 => { g with llm := g.llm.portWrite 4 v }
  | 45#6 => { g with bk := { g.bk with x := v } }
  | 46#6 => { g with bk := { g.bk with y := v } }
  | 47#6 => { g with bk := { g.bk with z := v } }
  | 48#6 => { g with lcm := g.lcm.portWrite 0 v }
  | 49#6 => { g with lcm := g.lcm.portWrite 1 v }
  | 50#6 => { g with lcm := g.lcm.portWrite 2 v }
  | 51#6 => { g with lcm := g.lcm.portWrite 3 v }
  | 52#6 => { g with lcm := g.lcm.portWrite 4 v }
  | 53#6 => { g with fc := { g.fc with x := v } }
  | 54#6 => { g with fc := { g.fc with y := v } }
  | 55#6 => { g with fc := { g.fc with z := v } }
  | 56#6 => { g with ofx := v }
  | 57#6 => { g with ofy := v }
  | 58#6 => { g with h := lowHalf v }
  | 59#6 => { g with dqa := lowHalf v }
  | 60#6 => { g with dqb := v }
  | 61#6 => { g with zsf3 := lowHalf v }
  | 62#6 => { g with zsf4 := lowHalf v }
  | _ => { g with flag := flagWritten v }

/-- The port number of a data register, 0 to 31 (R50). -/
def dataPort (r : RegIdx) : BitVec 6 := r.setWidth 6

/-- The port number of a control register, 32 plus its field (R50). -/
def controlPort (r : RegIdx) : BitVec 6 := 32#6 + r.setWidth 6

end Sys2Proof.Machine
end

