-- ==== Sys2Proof/Machine/Cop2Transfer.lean ====
section
/-! DEFINITION. The meanings of 46_cop2_transfer.md: the moves between the CPU and the GTE, LWC2 and
SWC2, and the COP2 words that are no move. -/

namespace Sys2Proof.Machine

/-- A COP2 word executes only when the GTE is usable, before anything else is examined (R330). -/
def whenGteUsable (body : State → Result) (s : State) : Result :=
  if s.gteUsable then body s else raise (.coprocessorUnusable 2) s

/-- A port write from the CPU side, at once (R330, R340). -/
def State.writeGte (n : BitVec 6) (v : Word) (s : State) : State :=
  { s with gte := s.gte.portWrite config.gteSxy2WritePushes n v }

/-- R331. -/
def execMfc2 (rt rd : RegIdx) (s : State) : Result :=
  whenGteUsable (fun s => .next (s.delayedWrite rt (s.gte.portRead (dataPort rd))).advance) s

/-- R332. -/
def execCfc2 (rt rd : RegIdx) (s : State) : Result :=
  whenGteUsable (fun s => .next (s.delayedWrite rt (s.gte.portRead (controlPort rd))).advance) s

/-- R333. -/
def execMtc2 (rt rd : RegIdx) (s : State) : Result :=
  whenGteUsable (fun s => .next (s.writeGte (dataPort rd) (s.readReg rt)).advance) s

/-- R334. -/
def execCtc2 (rt rd : RegIdx) (s : State) : Result :=
  whenGteUsable (fun s => .next (s.writeGte (controlPort rd) (s.readReg rt)).advance) s

/-- R335: the GTE register is written in this step. -/
def execLwc2 (rs rt : RegIdx) (imm : BitVec 16) (s : State) : Result :=
  whenGteUsable
    (fun s =>
      let a := effectiveAddress rs imm s
      if misalignedWord a then raise (.adel a) s
      else .next ((s.noteBus (.readWord a)).writeGte (dataPort rt) (s.mem.readWord a)).advance) s

/-- R336: the stored word is a port read, with its derivations. -/
def execSwc2 (rs rt : RegIdx) (imm : BitVec 16) (s : State) : Result :=
  whenGteUsable
    (fun s =>
      let a := effectiveAddress rs imm s
      if misalignedWord a then raise (.ades a) s
      else .next (s.busWriteWord a (s.gte.portRead (dataPort rt))).advance) s

/-- R337. -/
def execCop2Reserved (_rs : BitVec 5) (s : State) : Result :=
  whenGteUsable (raise .reservedInstruction) s

end Sys2Proof.Machine
end

