-- ==== Sys2Proof/Machine/GteCommands.lean ====
section
/-! DEFINITION. The meanings of 48_gte_commands.md: the 22 GTE commands in the frame of R450, and the
unlisted command numbers. -/

namespace Sys2Proof.Machine

/-! ### What the commands do to the GTE, after FLAG is cleared -/

/-- `RTP(v, last)` up to the screen coordinates: MAC1 to MAC3, IR1 to IR3 and the Z push (R451). The
flag of IR3 comes from `z`, its value from MAC3. -/
def Gte.rtpTransform (v : Vec16) (sh : Nat) (lm : Bool) (g : Gte) : Gte :=
  let m := g.rt.toIMat
  let x (l : Lane) : Int := rowValue (some (g.tr.toIVec.at l)) (m.row l) v.toIVec
  let z := wrap44 (x .three) >>> 12
  ((((((g.forLanes fun l g => g.checkRow l (some (g.tr.toIVec.at l)) (m.row l) v.toIVec).forLanes
    fun l g => g.setMac l (x l) sh).setIr .one (wrap32 (x .one >>> sh)) lm).setIr .two
    (wrap32 (x .two >>> sh)) lm).raiseFlag (outside (-0x8000) 0x7FFF z) 22).putIr .three
    (BitVec.ofInt 16 (limA lm (wrap32 (x .three >>> sh))))).pushSz z

/-- `flag(17)` where `Divide(H, SZ3)` sets it (R420). -/
def Gte.flagDivide (g : Gte) : Gte :=
  g.raiseFlag (divide config.gteDivTableSatSetsFlag g.h.toNat g.sz3.toNat).2 17

/-- `q`, the value of `Divide(H, SZ3)` (R420, R451). -/
def Gte.quotient (g : Gte) : Int :=
  (divide config.gteDivTableSatSetsFlag g.h.toNat g.sz3.toNat).1

/-- `RTP` from the division to the screen push (R451). -/
def Gte.rtpScreen (g : Gte) : Gte :=
  let sx := g.quotient * g.ir1.toInt + g.ofx.toInt
  let sy := g.quotient * g.ir2.toInt + g.ofy.toInt
  ((g.flagDivide.setMac0 sx).setMac0 sy).pushSxy (wrap32 (sx >>> 16)) (wrap32 (sy >>> 16))

/-- The depth cue of the last vertex of `RTP` (R451). -/
def Gte.rtpDepth (g : Gte) : Gte :=
  let dq := g.quotient * g.dqa.toInt + g.dqb.toInt
  (g.setMac0 dq).setIr0 (wrap32 (dq >>> 12))

/-- `RTP(v, false)` (R451). -/
def Gte.rtp (v : Vec16) (sh : Nat) (lm : Bool) (g : Gte) : Gte :=
  (g.rtpTransform v sh lm).rtpScreen

/-- `RTP(v, true)` (R451). -/
def Gte.rtpLast (v : Vec16) (sh : Nat) (lm : Bool) (g : Gte) : Gte :=
  (g.rtp v sh lm).rtpDepth

/-- The signed area of the three screen vertices (R453). -/
def Gte.signedArea (g : Gte) : Int :=
  g.sxy0.sx.toInt * g.sxy1.sy.toInt + g.sxy1.sx.toInt * g.sxy2.sy.toInt
    + g.sxy2.sx.toInt * g.sxy0.sy.toInt - g.sxy0.sx.toInt * g.sxy2.sy.toInt
    - g.sxy1.sx.toInt * g.sxy0.sy.toInt - g.sxy2.sx.toInt * g.sxy1.sy.toInt

/-- `OP`: the outer product of the IR triplet and the diagonal of RT (R454). -/
def Gte.outerProduct (sh : Nat) (lm : Bool) (g : Gte) : Gte :=
  let a := g.ir1.toInt
  let b := g.ir2.toInt
  let c := g.ir3.toInt
  let d1 := g.rt.m11.toInt
  let d2 := g.rt.m22.toInt
  let d3 := g.rt.m33.toInt
  ((g.setMacIr .one (c * d2 - b * d3) sh lm).setMacIr .two (a * d3 - c * d1) sh lm).setMacIr .three
    (b * d1 - a * d2) sh lm

/-- The garbage matrix of `mx` = 3 (R455). -/
def Gte.garbageMatrix (g : Gte) : IMat :=
  let r := shl (colours g.rgbc).x 4
  ⟨⟨-r, r, g.ir0.toInt⟩, ⟨g.rt.m13.toInt, g.rt.m13.toInt, g.rt.m13.toInt⟩,
    ⟨g.rt.m22.toInt, g.rt.m22.toInt, g.rt.m22.toInt⟩⟩

/-- The matrix an `mx` field selects (R455). -/
def Gte.selectMatrix (mx : MatrixSel) (g : Gte) : IMat :=
  match mx with
  | .rt => g.rt.toIMat
  | .llm => g.llm.toIMat
  | .lcm => g.lcm.toIMat
  | .garbage => g.garbageMatrix

/-- The vector a `vx` field selects (R455). -/
def Gte.selectVector (vx : VectorSel) (g : Gte) : IVec :=
  match vx with
  | .v0 => g.v0.toIVec
  | .v1 => g.v1.toIVec
  | .v2 => g.v2.toIVec
  | .ir => g.irVec

/-- A row of MVMVA with `tx` = 2: the far colour and the first product set flags and are lost (R455). -/
def Gte.farColourRow (l : Lane) (m v : IVec) (sh : Nat) (lm : Bool) (g : Gte) : Gte :=
  let t := shl (g.fc.toIVec.at l) 12 + m.x * v.x
  (((g.checkMac l t).setIr l (wrap32 (wrap44 t >>> sh)) false).checkMac l (m.y * v.y)).setMacIr l
    (wrap44 (m.y * v.y) + m.z * v.z) sh lm

/-- MVMVA (R455). -/
def Gte.multiplyAdd (mx : MatrixSel) (vx : VectorSel) (tx : TranslationSel) (sh : Nat) (lm : Bool)
    (g : Gte) : Gte :=
  let m := g.selectMatrix mx
  let v := g.selectVector vx
  match tx with
  | .tr => g.mulMat m (some g.tr.toIVec) v sh lm
  | .bk => g.mulMat m (some g.bk.toIVec) v sh lm
  | .fc => g.forLanes fun l g => g.farColourRow l (m.row l) v sh lm
  | .none => g.mulMat m (some ⟨0, 0, 0⟩) v sh lm

/-- `SQR` (R468). -/
def Gte.square (sh : Nat) (lm : Bool) (g : Gte) : Gte :=
  g.forLanes fun l g => g.setMacIr l (g.irAt l * g.irAt l) sh lm

/-- The end of AVSZ3 and AVSZ4: MAC0, and OTZ from the exact value (R469, R470). -/
def Gte.setAverage (r : Int) (g : Gte) : Gte :=
  let g0 := (g.setMac0 r).flagC (r >>> 12)
  { g0 with otz := BitVec.ofInt 16 (limC (r >>> 12)) }

/-- `AVSZ3` (R469). -/
def Gte.average3 (g : Gte) : Gte :=
  g.setAverage (g.zsf3.toInt * ((g.sz1.toNat + g.sz2.toNat + g.sz3.toNat : Nat) : Int))

/-- `AVSZ4` (R470). -/
def Gte.average4 (g : Gte) : Gte :=
  g.setAverage (g.zsf4.toInt * ((g.sz0.toNat + g.sz1.toNat + g.sz2.toNat + g.sz3.toNat : Nat) : Int))

/-- `DPC(c)` (R456). -/
def Gte.depthCueColour (c : IVec) (sh : Nat) (lm : Bool) (g : Gte) : Gte :=
  let g' := g.forLanes fun l g => g.setMac l (shl (c.at l) 16) 0
  (g'.interp g'.macVec sh lm).pushRgb

/-- The three products `(C << 4) * IR` (R458). -/
def Gte.colourProduct (g : Gte) : IVec :=
  let c := colours g.rgbc
  ⟨shl (c.x * g.ir1.toInt) 4, shl (c.y * g.ir2.toInt) 4, shl (c.z * g.ir3.toInt) 4⟩

/-- `DepthCue()` of section 5. -/
def Gte.depthCue (sh : Nat) (lm : Bool) (g : Gte) : Gte := g.interp g.colourProduct sh lm

/-- INTPL before its push (R459). -/
def Gte.interpolate (sh : Nat) (lm : Bool) (g : Gte) : Gte :=
  let g' := g.forLanes fun l g => g.setMac l (shl (g.irAt l) 12) 0
  g'.interp g'.macVec sh lm

/-- The second half of `Light(v)`: the colour matrix and the background colour. -/
def Gte.colourTransform (sh : Nat) (lm : Bool) (g : Gte) : Gte :=
  g.mulMat g.lcm.toIMat (some g.bk.toIVec) g.irVec sh lm

/-- `Light(v)` of section 5. -/
def Gte.light (v : Vec16) (sh : Nat) (lm : Bool) (g : Gte) : Gte :=
  (g.mulMat g.llm.toIMat none v.toIVec sh lm).colourTransform sh lm

/-- `ColourMul()` of section 5. -/
def Gte.colourMul (sh : Nat) (lm : Bool) (g : Gte) : Gte :=
  g.forLanes fun l g => g.setMacIr l (shl ((colours g.rgbc).at l * g.irAt l) 4) sh lm

/-- `NCS` for one vector (R460). -/
def Gte.normalColour (v : Vec16) (sh : Nat) (lm : Bool) (g : Gte) : Gte := (g.light v sh lm).pushRgb

/-- `NCCS` for one vector (R462). -/
def Gte.normalColourColour (v : Vec16) (sh : Nat) (lm : Bool) (g : Gte) : Gte :=
  ((g.light v sh lm).colourMul sh lm).pushRgb

/-- `NCDS` for one vector (R464). -/
def Gte.normalColourDepth (v : Vec16) (sh : Nat) (lm : Bool) (g : Gte) : Gte :=
  ((g.light v sh lm).depthCue sh lm).pushRgb

/-- `GPF` before its push (R471). -/
def Gte.scale (sh : Nat) (lm : Bool) (g : Gte) : Gte :=
  g.forLanes fun l g => g.setMacIr l (g.irAt l * g.ir0.toInt) sh lm

/-- `GPL` before its push (R472). -/
def Gte.scaleAccumulate (sh : Nat) (lm : Bool) (g : Gte) : Gte :=
  g.forLanes fun l g => g.setMacIr l (g.irAt l * g.ir0.toInt + shl (g.macAt l) sh) sh lm

/-! ### The frame of every command -/

/-- FLAG cleared at the start of a command (R450). -/
def Gte.clearFlag (g : Gte) : Gte := { g with flag := 0 }

/-- The frame of a command: usable, FLAG cleared, run, `advance` (R450). -/
def gteCommand (f : Gte → Gte) (s : State) : Result :=
  if s.gteUsable then .next { s with gte := f s.gte.clearFlag }.advance
  else raise (.coprocessorUnusable 2) s

/-- R451. -/
def execRtps (sf lm : Bool) (s : State) : Result :=
  gteCommand (fun g => g.rtpLast g.v0 (shiftOf sf) lm) s

/-- R452. -/
def execRtpt (sf lm : Bool) (s : State) : Result :=
  gteCommand (fun g => ((g.rtp g.v0 (shiftOf sf) lm).rtp g.v1 (shiftOf sf) lm).rtpLast g.v2
    (shiftOf sf) lm) s

/-- R453. -/
def execNclip (s : State) : Result := gteCommand (fun g => g.setMac0 g.signedArea) s

/-- R454. -/
def execOp (sf lm : Bool) (s : State) : Result :=
  gteCommand (fun g => g.outerProduct (shiftOf sf) lm) s

/-- R455. -/
def execMvmva (sf : Bool) (mx : MatrixSel) (vx : VectorSel) (tx : TranslationSel) (lm : Bool)
    (s : State) : Result :=
  gteCommand (fun g => g.multiplyAdd mx vx tx (shiftOf sf) lm) s

/-- R456. -/
def execDpcs (sf lm : Bool) (s : State) : Result :=
  gteCommand (fun g => g.depthCueColour (colours g.rgbc) (shiftOf sf) lm) s

/-- One iteration of DPCT: the oldest entry of the colour FIFO (R457). -/
def Gte.depthCueOldest (sh : Nat) (lm : Bool) (g : Gte) : Gte :=
  g.depthCueColour (colours g.rgb0) sh lm

/-- R457. -/
def execDpct (sf lm : Bool) (s : State) : Result :=
  gteCommand (fun g => ((g.depthCueOldest (shiftOf sf) lm).depthCueOldest (shiftOf sf)
    lm).depthCueOldest (shiftOf sf) lm) s

/-- R458. -/
def execDcpl (sf lm : Bool) (s : State) : Result :=
  gteCommand (fun g => (g.depthCue (shiftOf sf) lm).pushRgb) s

/-- R459. -/
def execIntpl (sf lm : Bool) (s : State) : Result :=
  gteCommand (fun g => (g.interpolate (shiftOf sf) lm).pushRgb) s

/-- R460. -/
def execNcs (sf lm : Bool) (s : State) : Result :=
  gteCommand (fun g => g.normalColour g.v0 (shiftOf sf) lm) s

/-- R461. -/
def execNct (sf lm : Bool) (s : State) : Result :=
  gteCommand (fun g => ((g.normalColour g.v0 (shiftOf sf) lm).normalColour g.v1 (shiftOf sf)
    lm).normalColour g.v2 (shiftOf sf) lm) s

/-- R462. -/
def execNccs (sf lm : Bool) (s : State) : Result :=
  gteCommand (fun g => g.normalColourColour g.v0 (shiftOf sf) lm) s

/-- R463. -/
def execNcct (sf lm : Bool) (s : State) : Result :=
  gteCommand (fun g => ((g.normalColourColour g.v0 (shiftOf sf) lm).normalColourColour g.v1
    (shiftOf sf) lm).normalColourColour g.v2 (shiftOf sf) lm) s

/-- R464. -/
def execNcds (sf lm : Bool) (s : State) : Result :=
  gteCommand (fun g => g.normalColourDepth g.v0 (shiftOf sf) lm) s

/-- R465. -/
def execNcdt (sf lm : Bool) (s : State) : Result :=
  gteCommand (fun g => ((g.normalColourDepth g.v0 (shiftOf sf) lm).normalColourDepth g.v1
    (shiftOf sf) lm).normalColourDepth g.v2 (shiftOf sf) lm) s

/-- R466. -/
def execCc (sf lm : Bool) (s : State) : Result :=
  gteCommand (fun g => ((g.colourTransform (shiftOf sf) lm).colourMul (shiftOf sf) lm).pushRgb) s

/-- R467. -/
def execCdp (sf lm : Bool) (s : State) : Result :=
  gteCommand (fun g => ((g.colourTransform (shiftOf sf) lm).depthCue (shiftOf sf) lm).pushRgb) s

/-- R468. -/
def execSqr (sf lm : Bool) (s : State) : Result :=
  gteCommand (fun g => g.square (shiftOf sf) lm) s

/-- R469. -/
def execAvsz3 (s : State) : Result := gteCommand Gte.average3 s

/-- R470. -/
def execAvsz4 (s : State) : Result := gteCommand Gte.average4 s

/-- R471. -/
def execGpf (sf lm : Bool) (s : State) : Result :=
  gteCommand (fun g => (g.scale (shiftOf sf) lm).pushRgb) s

/-- R472. -/
def execGpl (sf lm : Bool) (s : State) : Result :=
  gteCommand (fun g => (g.scaleAccumulate (shiftOf sf) lm).pushRgb) s

/-- An unlisted command number: FLAG is not touched (R133, R450). -/
def execGteReserved (_command : BitVec 6) (s : State) : Result :=
  if s.gteUsable then raise .reservedInstruction s else raise (.coprocessorUnusable 2) s

end Sys2Proof.Machine
end

