-- ==== Sys2Proof/Machine/LoadStore.lean ====
section
/-! DEFINITION. The meanings of 44_load_store.md. The alignment test precedes the bus call, and the
bus call precedes the queue write (R290); loads write through the load-delay queue (R151). -/

namespace Sys2Proof.Machine

/-- The end of a load: the bus call noted, the delayed write, `advance`. -/
def finishLoad (rt : RegIdx) (call : BusCall) (v : Word) (s : State) : Result :=
  .next ((s.noteBus call).delayedWrite rt v).advance

/-- R271. -/
def execLb (rs rt : RegIdx) (imm : BitVec 16) (s : State) : Result :=
  let a := effectiveAddress rs imm s
  finishLoad rt (.readByte a) ((s.mem.readByte a).signExtend 32) s

/-- R272. -/
def execLbu (rs rt : RegIdx) (imm : BitVec 16) (s : State) : Result :=
  let a := effectiveAddress rs imm s
  finishLoad rt (.readByte a) ((s.mem.readByte a).setWidth 32) s

/-- R273. -/
def execLh (rs rt : RegIdx) (imm : BitVec 16) (s : State) : Result :=
  let a := effectiveAddress rs imm s
  if misalignedHalf a then raise (.adel a) s
  else finishLoad rt (.readHalf a) ((s.mem.readHalf a).signExtend 32) s

/-- R274. -/
def execLhu (rs rt : RegIdx) (imm : BitVec 16) (s : State) : Result :=
  let a := effectiveAddress rs imm s
  if misalignedHalf a then raise (.adel a) s
  else finishLoad rt (.readHalf a) ((s.mem.readHalf a).setWidth 32) s

/-- R275. -/
def execLw (rs rt : RegIdx) (imm : BitVec 16) (s : State) : Result :=
  let a := effectiveAddress rs imm s
  if misalignedWord a then raise (.adel a) s
  else finishLoad rt (.readWord a) (s.mem.readWord a) s

/-- R281. -/
def execLwl (rs rt : RegIdx) (imm : BitVec 16) (s : State) : Result :=
  let a := effectiveAddress rs imm s
  finishLoad rt (.readWord (alignedWord a))
    (lwlMerge (laneOf a) (s.mem.readWord (alignedWord a)) (mergeOperand rt s)) s

/-- R282. -/
def execLwr (rs rt : RegIdx) (imm : BitVec 16) (s : State) : Result :=
  let a := effectiveAddress rs imm s
  finishLoad rt (.readWord (alignedWord a))
    (lwrMerge (laneOf a) (s.mem.readWord (alignedWord a)) (mergeOperand rt s)) s

/-- R283. -/
def execSb (rs rt : RegIdx) (imm : BitVec 16) (s : State) : Result :=
  .next (s.busWriteByte (effectiveAddress rs imm s) (byteAt 0 (s.readReg rt))).advance

/-- R284. -/
def execSh (rs rt : RegIdx) (imm : BitVec 16) (s : State) : Result :=
  let a := effectiveAddress rs imm s
  if misalignedHalf a then raise (.ades a) s
  else .next (s.busWriteHalf a ((s.readReg rt).extractLsb' 0 16)).advance

/-- R285. -/
def execSw (rs rt : RegIdx) (imm : BitVec 16) (s : State) : Result :=
  let a := effectiveAddress rs imm s
  if misalignedWord a then raise (.ades a) s
  else .next (s.busWriteWord a (s.readReg rt)).advance

/-- The read, merge and write of SWL and SWR on the aligned word (R89, R288, R289; assumption 26). -/
def storeMerged (merge : BitVec 2 → Word → Word → Word) (a v : Word) (s : State) : Result :=
  .next ((s.noteBus (.readWord (alignedWord a))).busWriteWord (alignedWord a)
    (merge (laneOf a) (s.mem.readWord (alignedWord a)) v)).advance

/-- R288. -/
def execSwl (rs rt : RegIdx) (imm : BitVec 16) (s : State) : Result :=
  storeMerged swlMerge (effectiveAddress rs imm s) (s.readReg rt) s

/-- R289. -/
def execSwr (rs rt : RegIdx) (imm : BitVec 16) (s : State) : Result :=
  storeMerged swrMerge (effectiveAddress rs imm s) (s.readReg rt) s

end Sys2Proof.Machine
end

