-- ==== Sys2Proof/Machine/Alu.lean ====
section
/-! DEFINITION. The meanings of 41_alu.md: arithmetic, logic, shifts and compares. Each reads its
sources, makes one immediate write and advances (R180). -/

namespace Sys2Proof.Machine

/-- The end of an instruction of R180: an immediate write of the result, then `advance`. -/
def writeBack (rd : RegIdx) (v : Word) (s : State) : Result := .next (s.writeReg rd v).advance

/-- The end of the signed add/sub family: the trap of R181 instead of the write on overflow. -/
def writeBackSigned (rd : RegIdx) (r : Int) (s : State) : Result :=
  if overflows32 r then raise .arithmeticOverflow s else writeBack rd (BitVec.ofInt 32 r) s

/-- 0 or 1, the result of a compare (R206 to R209). -/
def truth (b : Bool) : Word := if b then 1 else 0

/-- R196. -/
def execSll (rt rd : RegIdx) (sa : BitVec 5) (s : State) : Result :=
  writeBack rd (s.readReg rt <<< sa.toNat) s

/-- R197. -/
def execSrl (rt rd : RegIdx) (sa : BitVec 5) (s : State) : Result :=
  writeBack rd (s.readReg rt >>> sa.toNat) s

/-- R198. -/
def execSra (rt rd : RegIdx) (sa : BitVec 5) (s : State) : Result :=
  writeBack rd ((s.readReg rt).sshiftRight sa.toNat) s

/-- R199. -/
def execSllv (rs rt rd : RegIdx) (s : State) : Result :=
  writeBack rd (s.readReg rt <<< (variableShift rs s).toNat) s

/-- R200. -/
def execSrlv (rs rt rd : RegIdx) (s : State) : Result :=
  writeBack rd (s.readReg rt >>> (variableShift rs s).toNat) s

/-- R201. -/
def execSrav (rs rt rd : RegIdx) (s : State) : Result :=
  writeBack rd ((s.readReg rt).sshiftRight (variableShift rs s).toNat) s

/-- R182. -/
def execAdd (rs rt rd : RegIdx) (s : State) : Result :=
  writeBackSigned rd ((s.readReg rs).toInt + (s.readReg rt).toInt) s

/-- R183. -/
def execAddu (rs rt rd : RegIdx) (s : State) : Result :=
  writeBack rd (s.readReg rs + s.readReg rt) s

/-- R184. -/
def execSub (rs rt rd : RegIdx) (s : State) : Result :=
  writeBackSigned rd ((s.readReg rs).toInt - (s.readReg rt).toInt) s

/-- R185. -/
def execSubu (rs rt rd : RegIdx) (s : State) : Result :=
  writeBack rd (s.readReg rs - s.readReg rt) s

/-- R188. -/
def execAnd (rs rt rd : RegIdx) (s : State) : Result :=
  writeBack rd (s.readReg rs &&& s.readReg rt) s

/-- R189. -/
def execOr (rs rt rd : RegIdx) (s : State) : Result :=
  writeBack rd (s.readReg rs ||| s.readReg rt) s

/-- R190. -/
def execXor (rs rt rd : RegIdx) (s : State) : Result :=
  writeBack rd (s.readReg rs ^^^ s.readReg rt) s

/-- R191. -/
def execNor (rs rt rd : RegIdx) (s : State) : Result :=
  writeBack rd (~~~(s.readReg rs ||| s.readReg rt)) s

/-- R206. -/
def execSlt (rs rt rd : RegIdx) (s : State) : Result :=
  writeBack rd (truth ((s.readReg rs).slt (s.readReg rt))) s

/-- R207. -/
def execSltu (rs rt rd : RegIdx) (s : State) : Result :=
  writeBack rd (truth ((s.readReg rs).ult (s.readReg rt))) s

/-- R186. -/
def execAddi (rs rt : RegIdx) (imm : BitVec 16) (s : State) : Result :=
  writeBackSigned rt ((s.readReg rs).toInt + imm.toInt) s

/-- R187. -/
def execAddiu (rs rt : RegIdx) (imm : BitVec 16) (s : State) : Result :=
  writeBack rt (s.readReg rs + signImm imm) s

/-- R208. -/
def execSlti (rs rt : RegIdx) (imm : BitVec 16) (s : State) : Result :=
  writeBack rt (truth ((s.readReg rs).slt (signImm imm))) s

/-- R209: the sign-extended immediate is compared unsigned. -/
def execSltiu (rs rt : RegIdx) (imm : BitVec 16) (s : State) : Result :=
  writeBack rt (truth ((s.readReg rs).ult (signImm imm))) s

/-- R192. -/
def execAndi (rs rt : RegIdx) (imm : BitVec 16) (s : State) : Result :=
  writeBack rt (s.readReg rs &&& zeroImm imm) s

/-- R193. -/
def execOri (rs rt : RegIdx) (imm : BitVec 16) (s : State) : Result :=
  writeBack rt (s.readReg rs ||| zeroImm imm) s

/-- R194. -/
def execXori (rs rt : RegIdx) (imm : BitVec 16) (s : State) : Result :=
  writeBack rt (s.readReg rs ^^^ zeroImm imm) s

/-- R195. -/
def execLui (rt : RegIdx) (imm : BitVec 16) (s : State) : Result := writeBack rt (upperImm imm) s

end Sys2Proof.Machine
end

