-- ==== Sys2Proof/Machine/MulDiv.lean ====
section
/-! DEFINITION. The meanings of 42_muldiv.md: multiply, divide and the HI/LO moves. All complete in
their own step and none raises an exception (R220). -/

namespace Sys2Proof.Machine

/-- HI and LO written at once, then `advance` (R220). -/
def writeHiLo (hi lo : Word) (s : State) : Result := .next { s with hi := hi, lo := lo }.advance

/-- HI and LO from a 64-bit product (R221, R222). -/
def writeProduct (p : BitVec 64) (s : State) : Result :=
  writeHiLo (p.extractLsb' 32 32) (p.extractLsb' 0 32) s

/-- R221. -/
def execMult (rs rt : RegIdx) (s : State) : Result :=
  writeProduct (BitVec.ofInt 64 ((s.readReg rs).toInt * (s.readReg rt).toInt)) s

/-- R222. -/
def execMultu (rs rt : RegIdx) (s : State) : Result :=
  writeProduct (BitVec.ofNat 64 ((s.readReg rs).toNat * (s.readReg rt).toNat)) s

/-- The (HI, LO) of a signed division; the zero divisor and -2^31 / -1 by decision D23 (R223). -/
def divSigned (n d : Int) : Word × Word :=
  if d = 0 then
    (BitVec.ofInt 32 n, if 0 ≤ n then 0xFFFFFFFF#32 else 0x00000001#32)
  else if n = -0x80000000 ∧ d = -1 then
    (0x00000000#32, 0x80000000#32)
  else
    (BitVec.ofInt 32 (n - n.tdiv d * d), BitVec.ofInt 32 (n.tdiv d))

/-- R223. -/
def execDiv (rs rt : RegIdx) (s : State) : Result :=
  let r := divSigned (s.readReg rs).toInt (s.readReg rt).toInt
  writeHiLo r.1 r.2 s

/-- The (HI, LO) of an unsigned division; the zero divisor by decision D23 (R224). -/
def divUnsigned (n d : Nat) : Word × Word :=
  if d = 0 then (BitVec.ofNat 32 n, 0xFFFFFFFF#32)
  else (BitVec.ofNat 32 (n % d), BitVec.ofNat 32 (n / d))

/-- R224. -/
def execDivu (rs rt : RegIdx) (s : State) : Result :=
  let r := divUnsigned (s.readReg rs).toNat (s.readReg rt).toNat
  writeHiLo r.1 r.2 s

/-- R225. -/
def execMfhi (rd : RegIdx) (s : State) : Result := writeBack rd s.hi s

/-- R226. -/
def execMflo (rd : RegIdx) (s : State) : Result := writeBack rd s.lo s

/-- R227. -/
def execMthi (rs : RegIdx) (s : State) : Result := writeHiLo (s.readReg rs) s.lo s

/-- R228. -/
def execMtlo (rs : RegIdx) (s : State) : Result := writeHiLo s.hi (s.readReg rs) s

end Sys2Proof.Machine
end

