-- ==== Sys2Proof/Machine/System.lean ====
section
/-! DEFINITION. The meanings of 45_system_cop0.md: SYSCALL, BREAK, the COP0 moves, RFE, the words of
absent coprocessors, and reserved encodings. -/

namespace Sys2Proof.Machine

/-- R301. -/
def execSyscall (s : State) : Result := raise .syscall s

/-- R302. -/
def execBrk (s : State) : Result := raise .breakpoint s

/-- A COP0 word: it executes only when COP0 is usable, whatever its sub-operation (R300). -/
def whenCop0Usable (body : State → Result) (s : State) : Result :=
  if s.cop0Usable then body s else raise (.coprocessorUnusable 0) s

/-- R303, R306: a delayed write. -/
def execMfc0 (rt rd : RegIdx) (s : State) : Result :=
  whenCop0Usable
    (fun s => match s.cop0.read rd with
      | some v => .next (s.delayedWrite rt v).advance
      | none => .fault .unmappedCop0Register) s

/-- R305, R306: only a write of SR, number 12, is noted for phase P6 (R545). -/
def execMtc0 (rt rd : RegIdx) (s : State) : Result :=
  whenCop0Usable
    (fun s => match s.cop0.write rd (s.readReg rt) with
      | some c => .next { s with cop0 := c, srWritten := s.srWritten || rd == 12 }.advance
      | none => .fault .unmappedCop0Register) s

/-- R304. -/
def execRfe (s : State) : Result := whenCop0Usable (fun s => .next s.popStatus.advance) s

/-- R307. -/
def execCop0Reserved (_rs : BitVec 5) (_functor : BitVec 6) (s : State) : Result :=
  whenCop0Usable (raise .reservedInstruction) s

/-- R308. -/
def execCop1 (s : State) : Result := raise (.coprocessorUnusable 1) s

/-- R309. -/
def execCop3 (s : State) : Result := raise (.coprocessorUnusable 3) s

/-- R310. -/
def execLwc0 (s : State) : Result := raise (.coprocessorUnusable 0) s

/-- R311. -/
def execLwc1 (s : State) : Result := raise (.coprocessorUnusable 1) s

/-- R312. -/
def execLwc3 (s : State) : Result := raise (.coprocessorUnusable 3) s

/-- R313. -/
def execSwc0 (s : State) : Result := raise (.coprocessorUnusable 0) s

/-- R314. -/
def execSwc1 (s : State) : Result := raise (.coprocessorUnusable 1) s

/-- R315. -/
def execSwc3 (s : State) : Result := raise (.coprocessorUnusable 3) s

/-- R316: the word itself is recorded nowhere. -/
def execReserved (_word : Word) (s : State) : Result := raise .reservedInstruction s

end Sys2Proof.Machine
end

