-- ==== Sys2Proof/Machine/Dispatch.lean ====
section
/-! DEFINITION. The dispatch (40_step_and_dispatch.md R145): each instruction to its meaning. -/

namespace Sys2Proof.Machine

/-- What an instruction does (R145 to R148). -/
def exec (i : Instr) (s : State) : Host.Outcome State Fault Refusal :=
  match i with
  | .sll rt rd sa => Sys2Proof.Machine.execSll rt rd sa s
  | .srl rt rd sa => Sys2Proof.Machine.execSrl rt rd sa s
  | .sra rt rd sa => Sys2Proof.Machine.execSra rt rd sa s
  | .sllv rs rt rd => Sys2Proof.Machine.execSllv rs rt rd s
  | .srlv rs rt rd => Sys2Proof.Machine.execSrlv rs rt rd s
  | .srav rs rt rd => Sys2Proof.Machine.execSrav rs rt rd s
  | .jr rs => Sys2Proof.Machine.execJr rs s
  | .jalr rs rd => Sys2Proof.Machine.execJalr rs rd s
  | .syscall => Sys2Proof.Machine.execSyscall s
  | .brk => Sys2Proof.Machine.execBrk s
  | .mfhi rd => Sys2Proof.Machine.execMfhi rd s
  | .mthi rs => Sys2Proof.Machine.execMthi rs s
  | .mflo rd => Sys2Proof.Machine.execMflo rd s
  | .mtlo rs => Sys2Proof.Machine.execMtlo rs s
  | .mult rs rt => Sys2Proof.Machine.execMult rs rt s
  | .multu rs rt => Sys2Proof.Machine.execMultu rs rt s
  | .div rs rt => Sys2Proof.Machine.execDiv rs rt s
  | .divu rs rt => Sys2Proof.Machine.execDivu rs rt s
  | .add rs rt rd => Sys2Proof.Machine.execAdd rs rt rd s
  | .addu rs rt rd => Sys2Proof.Machine.execAddu rs rt rd s
  | .sub rs rt rd => Sys2Proof.Machine.execSub rs rt rd s
  | .subu rs rt rd => Sys2Proof.Machine.execSubu rs rt rd s
  | .and rs rt rd => Sys2Proof.Machine.execAnd rs rt rd s
  | .or rs rt rd => Sys2Proof.Machine.execOr rs rt rd s
  | .xor rs rt rd => Sys2Proof.Machine.execXor rs rt rd s
  | .nor rs rt rd => Sys2Proof.Machine.execNor rs rt rd s
  | .slt rs rt rd => Sys2Proof.Machine.execSlt rs rt rd s
  | .sltu rs rt rd => Sys2Proof.Machine.execSltu rs rt rd s
  | .bltz rs imm => Sys2Proof.Machine.execBltz rs imm s
  | .bgez rs imm => Sys2Proof.Machine.execBgez rs imm s
  | .bltzal rs imm => Sys2Proof.Machine.execBltzal rs imm s
  | .bgezal rs imm => Sys2Proof.Machine.execBgezal rs imm s
  | .j target => Sys2Proof.Machine.execJ target s
  | .jal target => Sys2Proof.Machine.execJal target s
  | .beq rs rt imm => Sys2Proof.Machine.execBeq rs rt imm s
  | .bne rs rt imm => Sys2Proof.Machine.execBne rs rt imm s
  | .blez rs imm => Sys2Proof.Machine.execBlez rs imm s
  | .bgtz rs imm => Sys2Proof.Machine.execBgtz rs imm s
  | .addi rs rt imm => Sys2Proof.Machine.execAddi rs rt imm s
  | .addiu rs rt imm => Sys2Proof.Machine.execAddiu rs rt imm s
  | .slti rs rt imm => Sys2Proof.Machine.execSlti rs rt imm s
  | .sltiu rs rt imm => Sys2Proof.Machine.execSltiu rs rt imm s
  | .andi rs rt imm => Sys2Proof.Machine.execAndi rs rt imm s
  | .ori rs rt imm => Sys2Proof.Machine.execOri rs rt imm s
  | .xori rs rt imm => Sys2Proof.Machine.execXori rs rt imm s
  | .lui rt imm => Sys2Proof.Machine.execLui rt imm s
  | .mfc0 rt rd => Sys2Proof.Machine.execMfc0 rt rd s
  | .mtc0 rt rd => Sys2Proof.Machine.execMtc0 rt rd s
  | .rfe => Sys2Proof.Machine.execRfe s
  | .cop0Reserved rs functor => Sys2Proof.Machine.execCop0Reserved rs functor s
  | .cop1 => Sys2Proof.Machine.execCop1 s
  | .mfc2 rt rd => Sys2Proof.Machine.execMfc2 rt rd s
  | .cfc2 rt rd => Sys2Proof.Machine.execCfc2 rt rd s
  | .mtc2 rt rd => Sys2Proof.Machine.execMtc2 rt rd s
  | .ctc2 rt rd => Sys2Proof.Machine.execCtc2 rt rd s
  | .cop2Reserved rs => Sys2Proof.Machine.execCop2Reserved rs s
  | .rtps sf lm => Sys2Proof.Machine.execRtps sf lm s
  | .nclip => Sys2Proof.Machine.execNclip s
  | .op sf lm => Sys2Proof.Machine.execOp sf lm s
  | .dpcs sf lm => Sys2Proof.Machine.execDpcs sf lm s
  | .intpl sf lm => Sys2Proof.Machine.execIntpl sf lm s
  | .mvmva sf mx vx tx lm => Sys2Proof.Machine.execMvmva sf mx vx tx lm s
  | .ncds sf lm => Sys2Proof.Machine.execNcds sf lm s
  | .cdp sf lm => Sys2Proof.Machine.execCdp sf lm s
  | .ncdt sf lm => Sys2Proof.Machine.execNcdt sf lm s
  | .nccs sf lm => Sys2Proof.Machine.execNccs sf lm s
  | .cc sf lm => Sys2Proof.Machine.execCc sf lm s
  | .ncs sf lm => Sys2Proof.Machine.execNcs sf lm s
  | .nct sf lm => Sys2Proof.Machine.execNct sf lm s
  | .sqr sf lm => Sys2Proof.Machine.execSqr sf lm s
  | .dcpl sf lm => Sys2Proof.Machine.execDcpl sf lm s
  | .dpct sf lm => Sys2Proof.Machine.execDpct sf lm s
  | .avsz3 => Sys2Proof.Machine.execAvsz3 s
  | .avsz4 => Sys2Proof.Machine.execAvsz4 s
  | .rtpt sf lm => Sys2Proof.Machine.execRtpt sf lm s
  | .gpf sf lm => Sys2Proof.Machine.execGpf sf lm s
  | .gpl sf lm => Sys2Proof.Machine.execGpl sf lm s
  | .ncct sf lm => Sys2Proof.Machine.execNcct sf lm s
  | .gteReserved command => Sys2Proof.Machine.execGteReserved command s
  | .cop3 => Sys2Proof.Machine.execCop3 s
  | .lb rs rt imm => Sys2Proof.Machine.execLb rs rt imm s
  | .lh rs rt imm => Sys2Proof.Machine.execLh rs rt imm s
  | .lwl rs rt imm => Sys2Proof.Machine.execLwl rs rt imm s
  | .lw rs rt imm => Sys2Proof.Machine.execLw rs rt imm s
  | .lbu rs rt imm => Sys2Proof.Machine.execLbu rs rt imm s
  | .lhu rs rt imm => Sys2Proof.Machine.execLhu rs rt imm s
  | .lwr rs rt imm => Sys2Proof.Machine.execLwr rs rt imm s
  | .sb rs rt imm => Sys2Proof.Machine.execSb rs rt imm s
  | .sh rs rt imm => Sys2Proof.Machine.execSh rs rt imm s
  | .swl rs rt imm => Sys2Proof.Machine.execSwl rs rt imm s
  | .sw rs rt imm => Sys2Proof.Machine.execSw rs rt imm s
  | .swr rs rt imm => Sys2Proof.Machine.execSwr rs rt imm s
  | .lwc0 => Sys2Proof.Machine.execLwc0 s
  | .lwc1 => Sys2Proof.Machine.execLwc1 s
  | .lwc2 rs rt imm => Sys2Proof.Machine.execLwc2 rs rt imm s
  | .lwc3 => Sys2Proof.Machine.execLwc3 s
  | .swc0 => Sys2Proof.Machine.execSwc0 s
  | .swc1 => Sys2Proof.Machine.execSwc1 s
  | .swc2 rs rt imm => Sys2Proof.Machine.execSwc2 rs rt imm s
  | .swc3 => Sys2Proof.Machine.execSwc3 s
  | .reserved word => Sys2Proof.Machine.execReserved word s

end Sys2Proof.Machine
end

