-- ==== Sys2Proof/Machine/Phases.lean ====
section
/-! DEFINITION. The phases of a step around its instruction (40_step_and_dispatch.md R140): P0, P1 and
the fetch of P2 before it, P4 to P7 after it. -/

namespace Sys2Proof.Machine

/-- P0: the step-local notes start clear (R140). -/
def State.beginStep (s : State) : State :=
  { s with srWritten := false, trapped := false, busCalls := [] }

/-- The bit of CAUSE the interrupt line drives, alone (R540). -/
def irqMask : Word := 1#32 <<< config.irqCauseBit

/-- The level of the interrupt line in this step (R540; assumption 10). -/
def State.irq (s : State) : Bool := s.irqLevels.headD false

/-- The sample of the interrupt line into CAUSE (R540). -/
def State.sampleLine (s : State) : State :=
  { s with
    cop0 := { s.cop0 with
      cause := if s.irq then s.cop0.cause ||| irqMask else s.cop0.cause &&& ~~~irqMask }
    irqLevels := s.irqLevels.tail }

/-- The trap for a pending interrupt, where there is one (R542, R545). -/
def State.trapIfPending (s : State) : State :=
  if s.interruptPending then s.takeTrap .interrupt else s

/-- P1 (R142): it does not mark the step as trapped. -/
def State.interruptPhase (s : State) : State := s.sampleLine.trapIfPending

/-- The word a fetch reads (R143). -/
def State.fetchWord (s : State) : Word := s.mem.readWord s.pc

/-- The bus call of a fetch (R89, R91, R143). -/
def State.noteFetch (s : State) : State := s.noteBus (.readWord s.pc)

/-- P4: the older queue entry is stored and the queue moves on (R144, R155). -/
def State.commitPhase (s : State) : State :=
  { s with
    regs := match s.ldCur with
      | some e => putReg s.regs e.reg e.value
      | none => s.regs
    ldCur := s.ldNext
    ldNext := none }

/-- P5: the jump of the branch whose delay slot this step ran (R161, R163). -/
def State.resolvePhase (wasPending : Bool) (s : State) : State :=
  if wasPending && !s.trapped then { s with pc := s.bdTarget, bdPending := false } else s

/-- P6: the interrupt an SR write of this step has let in (R166, R545). -/
def State.recheckPhase (s : State) : State := if s.srWritten then s.trapIfPending else s

/-- P7 (R167). -/
def State.tick (s : State) : State := { s with cycles := s.cycles + 1 }

/-- P4 to P7, in that order. -/
def State.endStep (wasPending : Bool) (s : State) : State :=
  ((s.commitPhase.resolvePhase wasPending).recheckPhase).tick

/-- The state in which the step fetches: after P0 and P1. -/
def State.beforeFetch (s : State) : State := s.beginStep.interruptPhase

end Sys2Proof.Machine
end

