-- ==== Sys2Proof/Machine/Step.lean ====
section
/-! DEFINITION. One step of the core (40_step_and_dispatch.md R140), and the state in which the next
step runs a given word. -/

namespace Sys2Proof.Machine

/-- One step (R140). A core in the fatal state takes none, and a step that would enter the fatal state
is a fault (R149; assumption 12). A misaligned program counter runs no instruction (R143). -/
def step (s : State) : Host.Outcome State Fault Refusal :=
  if s.fatal then .fault .coreFatal
  else if misalignedWord s.beforeFetch.pc then
    .next ((s.beforeFetch.raised (.adel s.beforeFetch.pc)).endStep false)
  else
    match exec (decode s.beforeFetch.fetchWord) s.beforeFetch.noteFetch with
    | .next t => .next (t.endStep s.beforeFetch.bdPending)
    | .fault f => .fault f
    | .refused r => .refused r

/-- The table word `w` of `nbits` bits, stored where the next step fetches. Where that address would be
misaligned, or the core is in the fatal state, no fetch would happen: the program counter is aligned
and `fatal` cleared. It stands for the loading of a program from outside (assumption 11). -/
def State.withFetchWord (s : State) (nbits w : Nat) : State :=
  let ready := { s with fatal := false, pc := alignedWord s.pc }
  { ready with
    mem := s.mem.writeWord ready.beforeFetch.pc (BitVec.ofNat 32 (w % 2 ^ nbits)) }

end Sys2Proof.Machine
end

