-- ==== Sys2Proof/Safety.lean ====
section
/-! DEFINITION. The terms of the claims: safe runs, the invariant of the core, the families of the
instructions, and the effects the rules give them, each written from the rule it cites and not from
the operations the meanings use. -/

namespace Sys2Proof

/-! ### Families of instructions -/

/-- What kind of instruction a row of the opcode table is. -/
inductive Family where
  | alu | mulDiv | control | load | store | trap | cop0 | absent | gteMove | gteLoad | gteStore
  | gteCommand | gteReserved | reserved
  deriving DecidableEq, Repr

/-- The family of an instruction; those of opcode 0x12, LWC2 and SWC2 are the ones R330 names. -/
def Instr.family (i : Instr) : Family :=
  match i with
  | .sll .. | .srl .. | .sra .. | .sllv .. | .srlv .. | .srav .. => .alu
  | .add .. | .addu .. | .sub .. | .subu .. | .and .. | .or .. | .xor .. | .nor .. => .alu
  | .slt .. | .sltu .. | .addi .. | .addiu .. | .slti .. | .sltiu .. => .alu
  | .andi .. | .ori .. | .xori .. | .lui .. => .alu
  | .mult .. | .multu .. | .div .. | .divu .. => .mulDiv
  | .mfhi .. | .mthi .. | .mflo .. | .mtlo .. => .mulDiv
  | .jr .. | .jalr .. | .j .. | .jal .. => .control
  | .bltz .. | .bgez .. | .bltzal .. | .bgezal .. => .control
  | .beq .. | .bne .. | .blez .. | .bgtz .. => .control
  | .lb .. | .lh .. | .lwl .. | .lw .. | .lbu .. | .lhu .. | .lwr .. => .load
  | .sb .. | .sh .. | .swl .. | .sw .. | .swr .. => .store
  | .syscall | .brk => .trap
  | .mfc0 .. | .mtc0 .. | .rfe | .cop0Reserved .. => .cop0
  | .cop1 | .cop3 | .lwc0 | .lwc1 | .lwc3 | .swc0 | .swc1 | .swc3 => .absent
  | .mfc2 .. | .cfc2 .. | .mtc2 .. | .ctc2 .. => .gteMove
  | .lwc2 .. => .gteLoad
  | .swc2 .. => .gteStore
  | .rtps .. | .nclip | .op .. | .dpcs .. | .intpl .. | .mvmva .. => .gteCommand
  | .ncds .. | .cdp .. | .ncdt .. | .nccs .. | .cc .. | .ncs .. | .nct .. => .gteCommand
  | .sqr .. | .dcpl .. | .dpct .. | .avsz3 | .avsz4 | .rtpt .. => .gteCommand
  | .gpf .. | .gpl .. | .ncct .. => .gteCommand
  | .cop2Reserved .. | .gteReserved .. => .gteReserved
  | .reserved .. => .reserved

/-- The families that need the GTE to be usable (R330). -/
def Family.needsGte (f : Family) : Bool :=
  match f with
  | .gteMove | .gteLoad | .gteStore | .gteCommand | .gteReserved => true
  | .alu | .mulDiv | .control | .load | .store | .trap | .cop0 | .absent | .reserved => false

/-- The families that write memory (R89). -/
def Family.storesMemory (f : Family) : Bool :=
  match f with
  | .store | .gteStore => true
  | .alu | .mulDiv | .control | .load | .trap | .cop0 | .absent | .gteMove | .gteLoad
  | .gteCommand | .gteReserved | .reserved => false

/-- The families that make data calls on the bus (R89). -/
def Family.callsBus (f : Family) : Bool :=
  match f with
  | .load | .store | .gteLoad | .gteStore => true
  | .alu | .mulDiv | .control | .trap | .cop0 | .absent | .gteMove | .gteCommand
  | .gteReserved | .reserved => false

/-- The register an instruction that completes writes at once (R150); the linking branches write it
taken or not (R251, R252). -/
def Instr.writesNow (i : Instr) : Option RegIdx :=
  match i with
  | .sll _ rd _ | .srl _ rd _ | .sra _ rd _ | .sllv _ _ rd | .srlv _ _ rd | .srav _ _ rd => some rd
  | .add _ _ rd | .addu _ _ rd | .sub _ _ rd | .subu _ _ rd => some rd
  | .and _ _ rd | .or _ _ rd | .xor _ _ rd | .nor _ _ rd | .slt _ _ rd | .sltu _ _ rd => some rd
  | .addi _ rt _ | .addiu _ rt _ | .slti _ rt _ | .sltiu _ rt _ => some rt
  | .andi _ rt _ | .ori _ rt _ | .xori _ rt _ | .lui rt _ => some rt
  | .mfhi rd | .mflo rd | .jalr _ rd => some rd
  | .jal _ | .bltzal .. | .bgezal .. => some 31
  | .mthi _ | .mtlo _ | .mult .. | .multu .. | .div .. | .divu .. => none
  | .jr _ | .j _ | .bltz .. | .bgez .. | .beq .. | .bne .. | .blez .. | .bgtz .. => none
  | .syscall | .brk | .mfc0 .. | .mtc0 .. | .rfe | .cop0Reserved .. | .reserved _ => none
  | .cop1 | .cop3 | .lwc0 | .lwc1 | .lwc3 | .swc0 | .swc1 | .swc3 => none
  | .mfc2 .. | .cfc2 .. | .mtc2 .. | .ctc2 .. | .lwc2 .. | .swc2 .. => none
  | .lb .. | .lh .. | .lwl .. | .lw .. | .lbu .. | .lhu .. | .lwr .. => none
  | .sb .. | .sh .. | .swl .. | .sw .. | .swr .. => none
  | .rtps .. | .nclip | .op .. | .dpcs .. | .intpl .. | .mvmva .. | .ncds .. | .cdp .. => none
  | .ncdt .. | .nccs .. | .cc .. | .ncs .. | .nct .. | .sqr .. | .dcpl .. | .dpct .. => none
  | .avsz3 | .avsz4 | .rtpt .. | .gpf .. | .gpl .. | .ncct .. => none
  | .cop2Reserved _ | .gteReserved _ => none

/-- The register an instruction that completes writes through the load-delay queue (R151). -/
def Instr.writesLater (i : Instr) : Option RegIdx :=
  match i with
  | .lb _ rt _ | .lh _ rt _ | .lwl _ rt _ | .lw _ rt _ => some rt
  | .lbu _ rt _ | .lhu _ rt _ | .lwr _ rt _ => some rt
  | .mfc0 rt _ | .mfc2 rt _ | .cfc2 rt _ => some rt
  | .sll .. | .srl .. | .sra .. | .sllv .. | .srlv .. | .srav .. => none
  | .add .. | .addu .. | .sub .. | .subu .. | .and .. | .or .. | .xor .. | .nor .. => none
  | .slt .. | .sltu .. | .addi .. | .addiu .. | .slti .. | .sltiu .. => none
  | .andi .. | .ori .. | .xori .. | .lui .. => none
  | .mfhi _ | .mflo _ | .mthi _ | .mtlo _ | .mult .. | .multu .. | .div .. | .divu .. => none
  | .jr _ | .jalr .. | .j _ | .jal _ | .bltz .. | .bgez .. | .bltzal .. | .bgezal .. => none
  | .beq .. | .bne .. | .blez .. | .bgtz .. => none
  | .syscall | .brk | .mtc0 .. | .rfe | .cop0Reserved .. | .reserved _ => none
  | .cop1 | .cop3 | .lwc0 | .lwc1 | .lwc3 | .swc0 | .swc1 | .swc3 => none
  | .mtc2 .. | .ctc2 .. | .lwc2 .. | .swc2 .. => none
  | .sb .. | .sh .. | .swl .. | .sw .. | .swr .. => none
  | .rtps .. | .nclip | .op .. | .dpcs .. | .intpl .. | .mvmva .. | .ncds .. | .cdp .. => none
  | .ncdt .. | .nccs .. | .cc .. | .ncs .. | .nct .. | .sqr .. | .dcpl .. | .dpct .. => none
  | .avsz3 | .avsz4 | .rtpt .. | .gpf .. | .gpl .. | .ncct .. => none
  | .cop2Reserved _ | .gteReserved _ => none

end Sys2Proof

namespace Sys2Proof.Machine

/-! ### Safe runs and the invariant -/

/-- The next `n` steps all complete: no fault, no refusal (R141). -/
def State.SafeFor : Nat → State → Prop
  | 0, _ => True
  | n + 1, s => ∃ t, step s = .next t ∧ t.SafeFor n

/-- The bits of CAUSE no rule writes: 1:0, 7, 15:11, 27:16 and 30 (R37). -/
def causeUnwritten : Word := 0x4FFFF883

/-- The exception codes this core raises (R501, R503). -/
def raisedCodes : List (BitVec 5) := [0, 4, 5, 8, 9, 10, 11, 12]

/-- What holds between two steps. -/
structure State.Inv (s : State) : Prop where
  /-- Memory is in its canonical form. -/
  memory : s.mem.wf = true
  /-- The place of register 0 is never written (R21; assumption 15). -/
  zeroRegister : s.regs[0] = 0
  /-- Between steps `ld_next` is empty (R27). -/
  queue : s.ldNext = none
  /-- With a branch pending the program counter is a multiple of 4 (R88, R143). -/
  delaySlot : s.bdPending = true → misalignedWord s.pc = false
  /-- The bits of CAUSE no rule writes are 0 (R37). -/
  causeZeros : s.cop0.cause &&& causeUnwritten = 0
  /-- ExcCode is one of the codes this core raises (R501). -/
  causeCode : s.cop0.cause.extractLsb' 2 5 ∈ raisedCodes
  /-- CE is 0 unless the last trap was CoprocessorUnusable (R520). -/
  causeCoprocessor : s.cop0.cause.extractLsb' 2 5 ≠ 11 → s.cop0.cause.extractLsb' 28 2 = 0
  /-- FLAG stores bits 30:12 only (R66). -/
  flagBits : s.gte.flag &&& 0x80000FFF = 0
  /-- PRID is constant (R45). -/
  prid : s.cop0.prid = config.pridValue

/-! ### Rows of the encoding maps -/

/-- The words of opcode 0 with functor `f` decode to `i`, whatever their unused fields hold. -/
def SpecialRow (f : BitVec 6) (i : RegIdx → RegIdx → RegIdx → BitVec 5 → Instr) : Prop :=
  ∀ w, opcodeOf w = 0 → functorOf w = f → decode w = i (rsOf w) (rtOf w) (rdOf w) (saOf w)

/-- The words of primary opcode `op` decode to `i`. -/
def ImmediateRow (op : BitVec 6) (i : RegIdx → RegIdx → BitVec 16 → Instr) : Prop :=
  ∀ w, opcodeOf w = op → decode w = i (rsOf w) (rtOf w) (immOf w)

/-- The words of primary opcode `op` decode to `i`, whatever their other fields hold. -/
def OpcodeRow (op : BitVec 6) (i : Instr) : Prop := ∀ w, opcodeOf w = op → decode w = i

/-- The words of opcode 1 with `sel` in the `rt` field decode to `i`. -/
def RegimmRow (sel : BitVec 5) (i : RegIdx → BitVec 16 → Instr) : Prop :=
  ∀ w, opcodeOf w = 1 → rtOf w = sel → decode w = i (rsOf w) (immOf w)

/-- The words of coprocessor opcode `op` with `sub` in the `rs` field decode to the move `i`. -/
def MoveRow (op : BitVec 6) (sub : BitVec 5) (i : RegIdx → RegIdx → Instr) : Prop :=
  ∀ w, opcodeOf w = op → rsOf w = sub → decode w = i (rtOf w) (rdOf w)

/-- The command words of opcode 0x12 with the number `c` decode to `i`. -/
def CommandRow (c : BitVec 6) (i : Bool → Bool → Instr) : Prop :=
  ∀ w, opcodeOf w = 0x12 → w.getLsbD 25 = true → functorOf w = c →
    decode w = i (w.getLsbD 19) (w.getLsbD 10)

/-! ### Effects -/

/-- Register `r` reads `v` in `t`, every other register as in `s`; register 0 reads 0 (R20, R21). -/
def WroteReg (r : RegIdx) (v : Word) (s t : State) : Prop :=
  ∀ q, t.readReg q = if q = 0 then 0 else if q = r then v else s.readReg q

/-- Every register reads as before. -/
def KeptRegs (s t : State) : Prop := ∀ q, t.readReg q = s.readReg q

/-- A pending load of register `r` is discarded, one of another register stays (R152, R154). -/
def DropsLoad (r : RegIdx) (s t : State) : Prop :=
  ∀ e, t.ldCur = some e ↔ s.ldCur = some e ∧ e.reg ≠ r

/-- The whole effect of an immediate write of `v` to `r` by an instruction that completes: the
register, the queue entry it overtakes, the next address, and nothing else (R150, R154, R180). -/
structure ImmediateWrite (r : RegIdx) (v : Word) (s t : State) : Prop where
  register : WroteReg r v s t
  queue : DropsLoad r s t
  next : t.pc = s.pc + 4
  frame : t = { s with regs := t.regs, ldCur := t.ldCur, pc := t.pc }

/-- The whole effect of a delayed write of `v` to `r` by an instruction that completes and makes the
bus calls `calls`: no register changes yet, an older pending load of `r` is discarded (R151, R152). -/
structure DelayedWrite (r : RegIdx) (v : Word) (calls : List BusCall) (s t : State) : Prop where
  queued : t.ldNext = some ⟨r, v⟩
  queue : DropsLoad r s t
  bus : t.busCalls = s.busCalls ++ calls
  next : t.pc = s.pc + 4
  frame : t = { s with ldCur := t.ldCur, ldNext := t.ldNext, pc := t.pc, busCalls := t.busCalls }

/-- HI and LO written, the next address, and nothing else (R220). -/
structure WroteHiLo (hi lo : Word) (s t : State) : Prop where
  hiValue : t.hi = hi
  loValue : t.lo = lo
  next : t.pc = s.pc + 4
  frame : t = { s with hi := t.hi, lo := t.lo, pc := t.pc }

/-- A jump recorded: the target noted, the delay slot next, and no other change but to the registers
and the queue entry a link overtakes (R160, R240). -/
structure RecordsJump (target : Word) (s t : State) : Prop where
  pending : t.bdPending = true
  target : t.bdTarget = target
  next : t.pc = s.pc + 4
  frame : t = { s with
    bdPending := t.bdPending, bdTarget := t.bdTarget, pc := t.pc, regs := t.regs, ldCur := t.ldCur }

/-- Nothing but the next address. -/
def OnlyAdvances (s t : State) : Prop := t = { s with pc := s.pc + 4 }

/-- No register and no queue entry changed. -/
def NoRegisterWrite (s t : State) : Prop := t.regs = s.regs ∧ t.ldCur = s.ldCur

/-- The link: `cur + 8` in register `r` (R162). -/
def Links (r : RegIdx) (s t : State) : Prop := WroteReg r (s.pc + 8) s t ∧ DropsLoad r s t

/-- The bytes `vs` stored at `a` and on, the calls made on the bus, the next address, and nothing
else; every other byte of memory reads as before (R82, R91). -/
structure StoresBytes (a : Word) (vs : List Byte) (calls : List BusCall) (s t : State) : Prop where
  stored : ∀ i (h : i < vs.length), t.mem.readByte (a + BitVec.ofNat 32 i) = vs[i]
  others : ∀ b, (∀ i, i < vs.length → b ≠ a + BitVec.ofNat 32 i) →
    t.mem.readByte b = s.mem.readByte b
  canonical : t.mem.wf = true
  bus : t.busCalls = s.busCalls ++ calls
  next : t.pc = s.pc + 4
  frame : t = { s with mem := t.mem, busCalls := t.busCalls, pc := t.pc }

/-- The bits of CAUSE trap entry writes: BD, CE and ExcCode (R520). -/
def causeTrapBits : Word := 0xB000007C

/-- Trap entry for the exception code `code`, coprocessor number `ce`, and, for an address error, the
offending address `bad`: everything it writes and that it writes nothing else (R520 to R524). TAR, and
BadVAddr, CE and BD on the kinds that do not define them, are by decisions D18 and D19 (assumption 20),
so a statement that an instruction traps rests on assumption 20 for these. -/
structure TrapEntered (code : BitVec 5) (ce : BitVec 2) (bad : Option Word) (s t : State) : Prop where
  epc : t.cop0.epc = if s.bdPending then s.pc - 4 else s.pc
  tar : t.cop0.tar = if s.bdPending then s.bdTarget else s.cop0.tar
  bd : t.cop0.cause.getLsbD 31 = s.bdPending
  ceField : t.cop0.cause.extractLsb' 28 2 = ce
  codeField : t.cop0.cause.extractLsb' 2 5 = code
  causeRest : t.cop0.cause &&& ~~~causeTrapBits = s.cop0.cause &&& ~~~causeTrapBits
  badVaddr : t.cop0.badVaddr = bad.getD s.cop0.badVaddr
  current : t.cop0.sr.extractLsb' 0 2 = 0
  previous : t.cop0.sr.extractLsb' 2 2 = s.cop0.sr.extractLsb' 0 2
  old : t.cop0.sr.extractLsb' 4 2 = s.cop0.sr.extractLsb' 2 2
  statusRest : t.cop0.sr.extractLsb' 6 26 = s.cop0.sr.extractLsb' 6 26
  vector : t.pc = if s.cop0.sr.getLsbD 22 then 0xBFC00180#32 else 0x80000080#32
  cop0Frame : t.cop0 = { s.cop0 with
    epc := t.cop0.epc, tar := t.cop0.tar, cause := t.cop0.cause, badVaddr := t.cop0.badVaddr,
    sr := t.cop0.sr }
  frame : t = { s with cop0 := t.cop0, bdPending := false, pc := t.pc, trapped := t.trapped }

/-- The interrupt condition: IEc, and a pending bit of CAUSE that SR enables, in bits 15:8 (R541). -/
def InterruptEnabled (s : State) : Prop :=
  s.cop0.sr.getLsbD 0 = true ∧
    ∃ k, 8 ≤ k ∧ k < 16 ∧ s.cop0.sr.getLsbD k = true ∧ s.cop0.cause.getLsbD k = true

/-- An instruction runs to a next state with `P`. -/
def Runs (i : Instr) (s : State) (P : State → Prop) : Prop := ∃ t, exec i s = .next t ∧ P t

/-- An instruction takes the trap: its whole effect is trap entry (R148). -/
def Traps (i : Instr) (s : State) (code : BitVec 5) (ce : BitVec 2) (bad : Option Word) : Prop :=
  Runs i s fun t => TrapEntered code ce bad s t ∧ t.trapped = true

/-- The whole effect of a GTE command that completes: the GTE, the next address, and nothing else
(R450). -/
def OnlyGte (s t : State) : Prop := t = { s with gte := t.gte, pc := s.pc + 4 }

/-- Only MAC0 and FLAG of the GTE change (R475). -/
def ChangesMac0 (before after : Gte) : Prop :=
  after = { before with mac0 := after.mac0, flag := after.flag }

/-- Only MAC0, OTZ and FLAG change (R475). -/
def ChangesAverage (before after : Gte) : Prop :=
  after = { before with mac0 := after.mac0, otz := after.otz, flag := after.flag }

/-- Only MAC1 to MAC3, IR1 to IR3 and FLAG change (R475). -/
def ChangesLanes (before after : Gte) : Prop :=
  after = { before with
    mac1 := after.mac1, mac2 := after.mac2, mac3 := after.mac3, ir1 := after.ir1,
    ir2 := after.ir2, ir3 := after.ir3, flag := after.flag }

/-- Only the lanes, the colour FIFO and FLAG change (R475). -/
def ChangesColours (before after : Gte) : Prop :=
  after = { before with
    mac1 := after.mac1, mac2 := after.mac2, mac3 := after.mac3, ir1 := after.ir1,
    ir2 := after.ir2, ir3 := after.ir3, rgb0 := after.rgb0, rgb1 := after.rgb1,
    rgb2 := after.rgb2, flag := after.flag }

/-- Only MAC0 to MAC3, IR0 to IR3, the Z and screen FIFOs and FLAG change (R475). -/
def ChangesTransform (before after : Gte) : Prop :=
  after = { before with
    mac0 := after.mac0, mac1 := after.mac1, mac2 := after.mac2, mac3 := after.mac3,
    ir0 := after.ir0, ir1 := after.ir1, ir2 := after.ir2, ir3 := after.ir3,
    sz0 := after.sz0, sz1 := after.sz1, sz2 := after.sz2, sz3 := after.sz3,
    sxy0 := after.sxy0, sxy1 := after.sxy1, sxy2 := after.sxy2, flag := after.flag }

/-! ### Results of the GTE -/

/-- The bits of FLAG that are set are those of the list whose condition holds (R66). -/
def FlagIs (bits : List (Nat × Prop)) (g : Gte) : Prop :=
  ∀ k, g.flag.getLsbD k = true ↔ ∃ c, (k, c) ∈ bits ∧ c

/-- The bits of FLAG that are set are those set in one of `parts`, and those of the list whose condition
holds: the flags of a command made of stages (R66). -/
def FlagJoins (parts : List Gte) (bits : List (Nat × Prop)) (g : Gte) : Prop :=
  ∀ k, g.flag.getLsbD k = true ↔
    (∃ p ∈ parts, p.flag.getLsbD k = true) ∨ ∃ c, (k, c) ∈ bits ∧ c

/-- `v` lies outside `lo` to `hi`. -/
def Outside (lo hi v : Int) : Prop := v < lo ∨ hi < v

/-- A lane's result from the exact value `x`: MAC its low 32 bits after the shift, IR that word
limited with the floor of `lm` (R405, R407, R410). -/
def LaneIs (x : Int) (sh : Nat) (lm : Bool) (mac : Word) (ir : Half) : Prop :=
  mac = BitVec.ofInt 32 (x / 2 ^ sh) ∧
    ir.toInt = min (max mac.toInt (if lm then 0 else -0x8000)) 0x7FFF

/-- The three lanes of a command's result. -/
def LanesAre (x1 x2 x3 : Int) (sh : Nat) (lm : Bool) (g : Gte) : Prop :=
  LaneIs x1 sh lm g.mac1 g.ir1 ∧ LaneIs x2 sh lm g.mac2 g.ir2 ∧ LaneIs x3 sh lm g.mac3 g.ir3

/-- The flags limA sets for the three lanes from the words in MAC (R410). -/
def irFlags (lm : Bool) (g : Gte) : List (Nat × Prop) :=
  [(24, Outside (if lm then 0 else -0x8000) 0x7FFF g.mac1.toInt),
   (23, Outside (if lm then 0 else -0x8000) 0x7FFF g.mac2.toInt),
   (22, Outside (if lm then 0 else -0x8000) 0x7FFF g.mac3.toInt)]

/-- The flags limB sets for the three components of a colour push (R411, R417). -/
def colourFlags (g : Gte) : List (Nat × Prop) :=
  [(21, Outside 0 0xFF (g.mac1.toInt / 16)), (20, Outside 0 0xFF (g.mac2.toInt / 16)),
   (19, Outside 0 0xFF (g.mac3.toInt / 16))]

/-- The flags of the 44-bit checks of the three lanes' exact values (R404, R405). -/
def macFlags (x1 x2 x3 : Int) : List (Nat × Prop) :=
  [(30, x1 > 2 ^ 43 - 1), (29, x2 > 2 ^ 43 - 1), (28, x3 > 2 ^ 43 - 1),
   (27, x1 < -2 ^ 43), (26, x2 < -2 ^ 43), (25, x3 < -2 ^ 43)]

/-- The flags limA sets with `lm` = 0 for the values `w1`, `w2`, `w3` of the lanes, where a command limits
them on the way to its result (R410). -/
def signedIrFlags (w1 w2 w3 : Int) : List (Nat × Prop) :=
  [(24, Outside (-0x8000) 0x7FFF w1), (23, Outside (-0x8000) 0x7FFF w2),
   (22, Outside (-0x8000) 0x7FFF w3)]

/-- The flags of MAC0 for the exact value `x` (R403, R406). -/
def mac0Flags (x : Int) : List (Nat × Prop) := [(16, x > 0x7FFFFFFF), (15, x < -0x80000000)]

/-- The colour FIFO moved by one, its newest entry the word made of MAC1 to MAC3 and RGBC (R417). -/
def ColourPushed (before after : Gte) : Prop :=
  after.rgb0 = before.rgb1 ∧ after.rgb1 = before.rgb2 ∧
    (after.rgb2.extractLsb' 0 8).toNat = (min (max (after.mac1.toInt / 16) 0) 0xFF).toNat ∧
    (after.rgb2.extractLsb' 8 8).toNat = (min (max (after.mac2.toInt / 16) 0) 0xFF).toNat ∧
    (after.rgb2.extractLsb' 16 8).toNat = (min (max (after.mac3.toInt / 16) 0) 0xFF).toNat ∧
    after.rgb2.extractLsb' 24 8 = before.rgbc.extractLsb' 24 8

/-- `x` fits the 44 bits of the accumulator, so no wrap and no flag (R404). -/
def Fits44 (x : Int) : Prop := -2 ^ 43 ≤ x ∧ x ≤ 2 ^ 43 - 1

/-- `a` is what the 44 bits of the accumulator keep of `x` (R404). -/
def Wraps44 (x a : Int) : Prop := Fits44 a ∧ (x - a) % 2 ^ 44 = 0

/-- A row of a matrix product with its partial sums (R425): `a` and `b` are the first and the second as
the accumulator keeps them, `x` the exact third. -/
structure RowSum (t : Int) (m v : IVec) (a b x : Int) : Prop where
  first : Wraps44 (t * 2 ^ 12 + m.x * v.x) a
  second : Wraps44 (a + m.y * v.y) b
  third : x = b + m.z * v.z

/-- The three rows of a matrix product plus a translation (R425). -/
structure RowSums (r1 r2 r3 v t a b x : IVec) : Prop where
  lane1 : RowSum t.x r1 v a.x b.x x.x
  lane2 : RowSum t.y r2 v a.y b.y x.y
  lane3 : RowSum t.z r3 v a.z b.z x.z

/-- The 44-bit flags of the first partial sums (R404, R425). -/
def firstSumFlags (r1 r2 r3 v t : IVec) : List (Nat × Prop) :=
  macFlags (t.x * 2 ^ 12 + r1.x * v.x) (t.y * 2 ^ 12 + r2.x * v.x) (t.z * 2 ^ 12 + r3.x * v.x)

/-- The 44-bit flags of all the sums of a matrix product (R404, R405, R425). -/
def sumFlags (r1 r2 r3 v t a x : IVec) : List (Nat × Prop) :=
  firstSumFlags r1 r2 r3 v t
    ++ macFlags (a.x + r1.y * v.y) (a.y + r2.y * v.y) (a.z + r3.y * v.y) ++ macFlags x.x x.y x.z

/-- The word the first pass of `Interp` leaves in MAC for a lane, from far colour `fc` and operand `m`
(R426). -/
def farWord (fc m : Int) (sh : Nat) : Int := (BitVec.ofInt 32 ((fc * 2 ^ 12 - m) / 2 ^ sh)).toInt

/-- The exact value of the second pass of `Interp` for a lane, from far colour `fc`, factor `ir0` and
operand `m` (R426). -/
def interpolated (fc ir0 m : Int) (sh : Nat) : Int :=
  min (max (farWord fc m sh) (-0x8000)) 0x7FFF * ir0 + m

/-- The flags of the two passes of `Interp` but for those of the last limiters, which `irFlags` says
(R426). -/
def interpFlags (f1 f2 f3 ir0 m1 m2 m3 : Int) (sh : Nat) : List (Nat × Prop) :=
  macFlags (f1 * 2 ^ 12 - m1) (f2 * 2 ^ 12 - m2) (f3 * 2 ^ 12 - m3)
    ++ signedIrFlags (farWord f1 m1 sh) (farWord f2 m2 sh) (farWord f3 m3 sh)
    ++ macFlags (interpolated f1 ir0 m1 sh) (interpolated f2 ir0 m2 sh) (interpolated f3 ir0 m3 sh)

/-- The flags of MAC0 for the two screen coordinates of a vertex, from the GTE after it, `q` the value of
the division (R451). -/
def screenFlags (q : Int) (g : Gte) : List (Nat × Prop) :=
  mac0Flags (q * g.ir1.toInt + g.ofx.toInt) ++ mac0Flags (q * g.ir2.toInt + g.ofy.toInt)

end Sys2Proof.Machine
end

