-- ==== Sys2Proof/Certificates/Slice0/Obligations.lean ====
section
/-! DEFINITION. The statements for the provers. The terms they use are in Safety.lean. -/

open Sys2Proof Sys2Proof.Machine

/-! ### Encoding -/

/-- Decoding the encoding of a well-formed instruction gives it back, whatever its operands. -/
def Obligations.DecodeEncode : Prop := ∀ i : Instr, i.WellFormed → decode (encode i) = i

/-- R113: the fields of a word rebuild it in each of the three layouts, and every word decodes to an
instruction of the table. -/
def Obligations.FieldsRebuildWord : Prop :=
  ∀ w : Word,
    place 26 (opcodeOf w) ||| rWord (rsOf w) (rtOf w) (rdOf w) (saOf w) (functorOf w) = w ∧
    iWord (opcodeOf w) (rsOf w) (rtOf w) (immOf w) = w ∧
    jWord (opcodeOf w) (targetOf w) = w ∧
    (decode w).WellFormed

/-- Words written out from the spec's encodings decode to what they stand for. -/
def Obligations.SpecWordsDecode : Prop :=
  decode 0x00221820 = .add 1 2 3 ∧ decode 0x00011100 = .sll 1 2 4 ∧
  decode 0x0022001A = .div 1 2 ∧ decode 0x04310001 = .bgezal 1 1 ∧
  decode 0x0C000400 = .jal 0x400 ∧ decode 0x10220003 = .beq 1 2 3 ∧
  decode 0x88220003 = .lwl 1 2 3 ∧ decode 0xAC220004 = .sw 1 2 4 ∧
  decode 0x40826000 = .mtc0 2 12 ∧ decode 0x42000010 = .rfe ∧
  decode 0x4842F800 = .cfc2 2 31 ∧ decode 0xC8200000 = .lwc2 1 0 0 ∧
  decode 0x4A4BA412 = .mvmva true .llm .ir .bk true ∧ decode 0xFC000000 = .reserved 0xFC000000

/-- R130, R316: every reserved encoding takes the ReservedInstruction trap. A coprocessor's reserved
words do so where the coprocessor is usable. Trap entry is that of assumption 20. -/
def Obligations.ReservedEncodingsTrap : Prop :=
  (∀ w s, opcodeOf w ∈ reservedOpcodes → decode w = .reserved w ∧ Traps (decode w) s 10 0 none) ∧
  (∀ w s, opcodeOf w = 0 → functorOf w ∈ reservedFunctors →
    decode w = .reserved w ∧ Traps (decode w) s 10 0 none) ∧
  (∀ w s, opcodeOf w = 1 → rtOf w ∉ regimmSelectors →
    decode w = .reserved w ∧ Traps (decode w) s 10 0 none) ∧
  (∀ w s, opcodeOf w = 0x10 → w.getLsbD 25 = false → rsOf w ∉ cop0Moves → s.cop0Usable = true →
    Traps (decode w) s 10 0 none) ∧
  (∀ w s, opcodeOf w = 0x10 → w.getLsbD 25 = true → functorOf w ≠ 0x10 → s.cop0Usable = true →
    Traps (decode w) s 10 0 none) ∧
  (∀ w s, opcodeOf w = 0x12 → w.getLsbD 25 = false → rsOf w ∉ cop2Moves → s.gteUsable = true →
    Traps (decode w) s 10 0 none) ∧
  (∀ w s, opcodeOf w = 0x12 → w.getLsbD 25 = true → functorOf w ∉ gteCommands →
    s.gteUsable = true → Traps (decode w) s 10 0 none) ∧
  (∀ v s, Traps (.reserved v) s 10 0 none) ∧
  (∀ rs f s, s.cop0Usable = true → Traps (.cop0Reserved rs f) s 10 0 none) ∧
  (∀ rs s, s.gteUsable = true → Traps (.cop2Reserved rs) s 10 0 none) ∧
  (∀ c s, s.gteUsable = true → Traps (.gteReserved c) s 10 0 none)

/-- R121: the command numbers of the GTE, with `sf` in bit 19 and `lm` in bit 10, and the 42 numbers
that are reserved. -/
def Obligations.GteCommandNumbers : Prop :=
  CommandRow 0x01 .rtps ∧ CommandRow 0x06 (fun _ _ => .nclip) ∧ CommandRow 0x0C .op ∧
  CommandRow 0x10 .dpcs ∧ CommandRow 0x11 .intpl ∧ CommandRow 0x13 .ncds ∧
  CommandRow 0x14 .cdp ∧ CommandRow 0x16 .ncdt ∧ CommandRow 0x1B .nccs ∧
  CommandRow 0x1C .cc ∧ CommandRow 0x1E .ncs ∧ CommandRow 0x20 .nct ∧
  CommandRow 0x28 .sqr ∧ CommandRow 0x29 .dcpl ∧ CommandRow 0x2A .dpct ∧
  CommandRow 0x2D (fun _ _ => .avsz3) ∧ CommandRow 0x2E (fun _ _ => .avsz4) ∧
  CommandRow 0x30 .rtpt ∧ CommandRow 0x3D .gpf ∧ CommandRow 0x3E .gpl ∧
  CommandRow 0x3F .ncct ∧
  (∀ w, opcodeOf w = 0x12 → w.getLsbD 25 = true → functorOf w = 0x12 →
    ∃ mx vx tx, decode w = .mvmva (w.getLsbD 19) mx vx tx (w.getLsbD 10) ∧
      encodeMatrix mx = w.extractLsb' 17 2 ∧ encodeVector vx = w.extractLsb' 15 2 ∧
      encodeTranslation tx = w.extractLsb' 13 2) ∧
  (∀ w, opcodeOf w = 0x12 → w.getLsbD 25 = true → functorOf w ∉ gteCommands →
    decode w = .gteReserved (functorOf w)) ∧
  gteCommands.Nodup ∧ gteCommands.length = 22

/-! ### Reset and the step -/

/-- What reset leaves. The program counter and PRID are the defaults of R10 (assumptions 4, 5), the
unlisted byte is the model's (assumption 1), as are the step-local fields and the line levels
(assumptions 10, 16). -/
def Obligations.ResetValues : Prop :=
  (∀ r, State.reset.readReg r = 0) ∧ State.reset.hi = 0 ∧ State.reset.lo = 0 ∧
  State.reset.pc = 0xBFC00000 ∧ State.reset.ldCur = none ∧ State.reset.ldNext = none ∧
  State.reset.bdPending = false ∧ State.reset.bdTarget = 0 ∧ State.reset.cycles = 0 ∧
  State.reset.fatal = false ∧ State.reset.srWritten = false ∧
  (∀ n v, Cop0.read n State.reset.cop0 = some v → v = if n = 15 then 2 else 0) ∧
  (∀ n, n ≠ 31 → State.reset.gte.portRead n = 0) ∧ State.reset.gte.portRead 31 = 32 ∧
  (∀ a, State.reset.mem.readByte a = 0) ∧
  State.reset.trapped = false ∧ State.reset.busCalls = [] ∧ State.reset.irqLevels = [] ∧
  State.reset.cop0Usable = true ∧ State.reset.gteUsable = false

/-- Reset meets the invariant. -/
def Obligations.ResetMeetsInvariant : Prop := State.reset.Inv

/-- Every step that completes keeps the invariant. -/
def Obligations.StepKeepsInvariant : Prop := ∀ s t, s.Inv → step s = .next t → t.Inv

/-- A step runs the instruction that the four bytes at the program counter decode to. The program
counter is the one after the interrupt test of P1, and P4 to P7 follow the instruction (R140, with
decisions D4, D6 and D12, assumption 19); the order of the four bytes is assumption 3. -/
def Obligations.StepRunsDecoded : Prop :=
  ∀ (s : State) (i : Instr), s.fatal = false → misalignedWord s.beforeFetch.pc = false →
    decodeBytes [s.beforeFetch.mem.readByte s.beforeFetch.pc,
      s.beforeFetch.mem.readByte (s.beforeFetch.pc + 1),
      s.beforeFetch.mem.readByte (s.beforeFetch.pc + 2),
      s.beforeFetch.mem.readByte (s.beforeFetch.pc + 3)] = .ok (i, []) →
    step s = match exec i s.beforeFetch.noteFetch with
      | .next t => .next (t.endStep s.beforeFetch.bdPending)
      | .fault f => .fault f
      | .refused r => .refused r

/-- R143: a misaligned program counter runs no instruction: no bus call, the trap of AdEL with the
address, then P4 to P7. Otherwise the fetch is the first bus call of the step. Trap entry
is that of assumption 20. -/
def Obligations.MisalignedFetchTraps : Prop :=
  ∀ s : State, s.fatal = false →
    (misalignedWord s.beforeFetch.pc = true →
      ∃ m t, TrapEntered 4 0 (some s.beforeFetch.pc) s.beforeFetch m ∧ m.trapped = true ∧
        step s = .next t ∧ t = m.endStep false ∧ t.busCalls = [] ∧
        (s.beforeFetch.bdPending = false → t.cop0.epc = s.beforeFetch.pc)) ∧
    (misalignedWord s.beforeFetch.pc = false →
      ∀ t, step s = .next t → ∃ calls, t.busCalls = .readWord s.beforeFetch.pc :: calls)

/-- P0 and P1: the line is sampled into CAUSE, and an enabled pending interrupt enters the trap before
the fetch, in the same step (R540 to R542; R142 by decision D4). Trap entry, with a branch pending too,
is that of assumption 20 (D18, D19, D29). -/
def Obligations.InterruptBeforeFetch : Prop :=
  ∀ s : State, ∃ m : State,
    m = { s with
      srWritten := false, trapped := false, busCalls := [], irqLevels := s.irqLevels.tail,
      cop0 := { s.cop0 with cause := m.cop0.cause } } ∧
    (∀ k < 32, m.cop0.cause.getLsbD k =
      if k = 10 then s.irqLevels.headD false else s.cop0.cause.getLsbD k) ∧
    (InterruptEnabled m → TrapEntered 0 0 none m s.beforeFetch) ∧
    (¬InterruptEnabled m → s.beforeFetch = m)

/-- P6: where the instruction wrote SR and an enabled interrupt is pending when it has retired, the
step ends in the trap, entered from the state after the load commit and the branch of that step, at the
address of the next instruction (R166, R545 by decision D6). Trap entry is that of assumption 20. -/
def Obligations.StatusWriteThenInterrupt : Prop :=
  ∀ (s u v : State), s.fatal = false → misalignedWord s.beforeFetch.pc = false →
    exec (decode s.beforeFetch.fetchWord) s.beforeFetch.noteFetch = .next u →
    u.srWritten = true → InterruptEnabled u →
    v = u.commitPhase.resolvePhase s.beforeFetch.bdPending →
    v.bdPending = false ∧
    ∃ t, step s = .next t ∧ TrapEntered 0 0 none v { t with cycles := v.cycles } ∧
      t.cycles = s.cycles + 1 ∧
      t.cop0.epc = if s.beforeFetch.bdPending then s.beforeFetch.bdTarget
        else s.beforeFetch.pc + 4

/-- CAUSE bit 10 is the level of the line in the step just done, whatever the instruction did (R540
by decision D5). -/
def Obligations.CauseFollowsLine : Prop :=
  ∀ s t : State, step s = .next t →
    t.cop0.cause.getLsbD 10 = s.irqLevels.headD false ∧ t.irqLevels = s.irqLevels.tail

/-- R167: the step counter. -/
def Obligations.CyclesAdvance : Prop := ∀ s t : State, step s = .next t → t.cycles = s.cycles + 1

/-- A pending load commits in the next step, trapped or not, unless the instruction of that step
completes and writes the same register, which discards it: at once, and its own value stays, or by a
delayed write, and the register reads as before with the newer value pending (R144, R152, R154, R155). -/
def Obligations.PendingLoadCommits : Prop :=
  ∀ (s t : State) (e : LoadEntry), step s = .next t → s.ldCur = some e → e.reg ≠ 0 →
    t.readReg e.reg = e.value ∨
      (misalignedWord s.beforeFetch.pc = false ∧ ∃ i u, i = decode s.beforeFetch.fetchWord ∧
        exec i s.beforeFetch.noteFetch = .next u ∧ u.trapped = false ∧
        (i.writesNow = some e.reg ∧ t.readReg e.reg = u.readReg e.reg ∨
          i.writesLater = some e.reg ∧ t.readReg e.reg = s.readReg e.reg ∧
            ∃ w, t.ldCur = some ⟨e.reg, w⟩))

/-- R152, cancelled load: of two loads to one register in consecutive steps the older never reaches
the register, which after the second still reads what it read before both. -/
def Obligations.CancelledLoad : Prop :=
  ∀ (s t : State) (e : LoadEntry) (rs rt : RegIdx) (imm : BitVec 16), step s = .next t →
    s.ldCur = some e → e.reg = rt → misalignedWord s.beforeFetch.pc = false →
    decode s.beforeFetch.fetchWord = .lw rs rt imm →
    misalignedWord (effectiveAddress rs imm s) = false →
    t.readReg rt = s.readReg rt ∧
      t.ldCur = some ⟨rt, s.mem.readWord (effectiveAddress rs imm s)⟩

/-- R163: after a delay slot that completes without a trap the step goes to the target with no branch
pending, and where none was pending it goes where the instruction left the program counter; after a
trap the handler's address stays. Here P6 takes no interrupt (StatusWriteThenInterrupt says where it
does). -/
def Obligations.BranchResolves : Prop :=
  ∀ s u : State, s.fatal = false → misalignedWord s.beforeFetch.pc = false →
    exec (decode s.beforeFetch.fetchWord) s.beforeFetch.noteFetch = .next u →
    (u.srWritten = true → ¬InterruptEnabled u) →
    ∃ t, step s = .next t ∧
      (u.trapped = false → s.beforeFetch.bdPending = true →
        t.pc = s.bdTarget ∧ t.bdPending = false) ∧
      (u.trapped = false → s.beforeFetch.bdPending = false →
        t.pc = u.pc ∧ t.bdPending = u.bdPending ∧ t.bdTarget = u.bdTarget) ∧
      (u.trapped = true → t.pc = u.pc ∧ t.bdPending = false)

/-- A step is never refused, and it faults only in the fatal state, at an unmapped COP0 register, and
at a jump in a delay slot (R141, R149, R165, R306). No step that completes leaves the state as it was: the
block has no halt (R168). -/
def Obligations.StepStopsOnlyWhereSaid : Prop :=
  ∀ s : State, (∀ r, step s ≠ .refused r) ∧ step s ≠ .next s ∧
    (step s = .fault .coreFatal ↔ s.fatal = true) ∧
    (step s = .fault .unmappedCop0Register →
      ∃ rt rd, (decode s.beforeFetch.fetchWord = .mfc0 rt rd ∨
          decode s.beforeFetch.fetchWord = .mtc0 rt rd) ∧
        rd ∉ ([3, 5, 6, 7, 8, 9, 11, 12, 13, 14, 15] : List RegIdx)) ∧
    (step s = .fault .jumpInDelaySlot →
      s.beforeFetch.bdPending = true ∧ (decode s.beforeFetch.fetchWord).family = .control)

/-- Which instructions can change which state: HI and LO, the GTE, memory and the bus, COP0 without a
trap, and the branch state without a trap; and what no instruction changes (R89, R141, R180, R220,
R330, R450). -/
def Obligations.OnlyTheirFamiliesChange : Prop :=
  ∀ (i : Instr) (s t : State), exec i s = .next t →
    (i.family ≠ .mulDiv → t.hi = s.hi ∧ t.lo = s.lo) ∧
    (i.family.needsGte = false ∨ s.gteUsable = false → t.gte = s.gte) ∧
    (i.family.storesMemory = false → t.mem = s.mem) ∧
    (i.family.callsBus = false → t.busCalls = s.busCalls) ∧
    (i.family ≠ .cop0 → s.trapped = false → t.trapped = false → t.cop0 = s.cop0) ∧
    (i.family ≠ .control → s.trapped = false → t.trapped = false →
      t.bdPending = s.bdPending ∧ t.bdTarget = s.bdTarget) ∧
    t.cycles = s.cycles ∧ t.fatal = s.fatal ∧ t.irqLevels = s.irqLevels

/-- In user mode with CU0 clear an instruction changes COP0 only by trap entry (R300, R550, R551), that
of assumption 20. -/
def Obligations.UserModeKeepsCop0 : Prop :=
  ∀ (i : Instr) (s t : State), exec i s = .next t → s.cop0.sr.getLsbD 1 = true →
    s.cop0.sr.getLsbD 28 = false →
    t.cop0 = s.cop0 ∨ ∃ code ce bad, TrapEntered code ce bad s t

/-! ### Exceptions -/

/-- Trap entry for each kind: its code, its coprocessor number, its bad address, and every register
it writes (R501, R520, R521; decisions D18, D19). -/
def Obligations.TrapEntryEffect : Prop :=
  ∀ s : State,
    TrapEntered 0 0 none s (s.takeTrap .interrupt) ∧
    (∀ a, TrapEntered 4 0 (some a) s (s.takeTrap (.adel a))) ∧
    (∀ a, TrapEntered 5 0 (some a) s (s.takeTrap (.ades a))) ∧
    TrapEntered 8 0 none s (s.takeTrap .syscall) ∧
    TrapEntered 9 0 none s (s.takeTrap .breakpoint) ∧
    TrapEntered 10 0 none s (s.takeTrap .reservedInstruction) ∧
    (∀ c, TrapEntered 11 c none s (s.takeTrap (.coprocessorUnusable c))) ∧
    TrapEntered 12 0 none s (s.takeTrap .arithmeticOverflow)

/-- R523, R524: every trap pushes the mode stack, leaving kernel mode with interrupts disabled, and
goes to the one vector that BEV selects. -/
def Obligations.TrapModeAndVector : Prop :=
  ∀ (e : Exception) (s : State),
    (s.takeTrap e).cop0.sr.extractLsb' 4 2 = s.cop0.sr.extractLsb' 2 2 ∧
    (s.takeTrap e).cop0.sr.extractLsb' 2 2 = s.cop0.sr.extractLsb' 0 2 ∧
    (s.takeTrap e).cop0.sr.getLsbD 1 = false ∧ (s.takeTrap e).cop0.sr.getLsbD 0 = false ∧
    (s.takeTrap e).cop0.sr.extractLsb' 6 26 = s.cop0.sr.extractLsb' 6 26 ∧
    (s.cop0.sr.getLsbD 22 = false → (s.takeTrap e).pc = 0x80000080) ∧
    (s.cop0.sr.getLsbD 22 = true → (s.takeTrap e).pc = 0xBFC00180)

/-- RFE right after a trap completes in any mode the trap came from, and gives back the current and
previous mode and interrupt enable; `KUo` and `IEo` of before are lost (R304, R523, R530). -/
def Obligations.RfeUndoesPush : Prop :=
  ∀ (e : Exception) (s : State), Runs .rfe (s.takeTrap e) fun t =>
    t.cop0.sr.extractLsb' 0 4 = s.cop0.sr.extractLsb' 0 4 ∧
    t.cop0.sr.extractLsb' 4 2 = s.cop0.sr.extractLsb' 2 2 ∧
    t.cop0.sr.extractLsb' 6 26 = s.cop0.sr.extractLsb' 6 26

/-! ### Arithmetic, logic, shifts, compares -/

/-- R182, R184, R186: ADD, SUB and ADDI write the exact sum or difference where a word holds it, and
take the ArithmeticOverflow trap, with no other effect, where none does. Trap entry is that of
assumption 20. -/
def Obligations.SignedAddSub : Prop :=
  SpecialRow 0x20 (fun rs rt rd _ => .add rs rt rd) ∧
  SpecialRow 0x22 (fun rs rt rd _ => .sub rs rt rd) ∧
  ImmediateRow 0x08 (fun rs rt imm => .addi rs rt imm) ∧
  (∀ rs rt rd s (v : Word), v.toInt = (s.readReg rs).toInt + (s.readReg rt).toInt →
    Runs (.add rs rt rd) s (ImmediateWrite rd v s)) ∧
  (∀ rs rt rd s (v : Word), v.toInt = (s.readReg rs).toInt - (s.readReg rt).toInt →
    Runs (.sub rs rt rd) s (ImmediateWrite rd v s)) ∧
  (∀ rs rt imm s (v : Word), v.toInt = (s.readReg rs).toInt + imm.toInt →
    Runs (.addi rs rt imm) s (ImmediateWrite rt v s)) ∧
  (∀ rs rt rd s,
    Outside (-0x80000000) 0x7FFFFFFF ((s.readReg rs).toInt + (s.readReg rt).toInt) →
    Traps (.add rs rt rd) s 12 0 none) ∧
  (∀ rs rt rd s,
    Outside (-0x80000000) 0x7FFFFFFF ((s.readReg rs).toInt - (s.readReg rt).toInt) →
    Traps (.sub rs rt rd) s 12 0 none) ∧
  (∀ rs rt imm s, Outside (-0x80000000) 0x7FFFFFFF ((s.readReg rs).toInt + imm.toInt) →
    Traps (.addi rs rt imm) s 12 0 none)

/-- R183, R185, R187: ADDU, SUBU and ADDIU write the sum or difference modulo 2^32 and never trap; the
immediate of ADDIU is sign-extended. -/
def Obligations.WrappingAddSub : Prop :=
  SpecialRow 0x21 (fun rs rt rd _ => .addu rs rt rd) ∧
  SpecialRow 0x23 (fun rs rt rd _ => .subu rs rt rd) ∧
  ImmediateRow 0x09 (fun rs rt imm => .addiu rs rt imm) ∧
  (∀ rs rt rd s, Runs (.addu rs rt rd) s fun t => ∃ v : Word,
    (v.toNat : Int) = ((s.readReg rs).toNat + (s.readReg rt).toNat : Int) % 2 ^ 32 ∧
    ImmediateWrite rd v s t) ∧
  (∀ rs rt rd s, Runs (.subu rs rt rd) s fun t => ∃ v : Word,
    (v.toNat : Int) = ((s.readReg rs).toNat - (s.readReg rt).toNat : Int) % 2 ^ 32 ∧
    ImmediateWrite rd v s t) ∧
  (∀ rs rt imm s, Runs (.addiu rs rt imm) s fun t => ∃ v : Word,
    (v.toNat : Int) = ((s.readReg rs).toNat + imm.toInt : Int) % 2 ^ 32 ∧
    ImmediateWrite rt v s t)

/-- R188 to R195: the logic instructions, bit by bit; the immediates are zero-extended, and LUI puts
its immediate in the high half. -/
def Obligations.LogicResults : Prop :=
  SpecialRow 0x24 (fun rs rt rd _ => .and rs rt rd) ∧
  SpecialRow 0x25 (fun rs rt rd _ => .or rs rt rd) ∧
  SpecialRow 0x26 (fun rs rt rd _ => .xor rs rt rd) ∧
  SpecialRow 0x27 (fun rs rt rd _ => .nor rs rt rd) ∧
  ImmediateRow 0x0C (fun rs rt imm => .andi rs rt imm) ∧
  ImmediateRow 0x0D (fun rs rt imm => .ori rs rt imm) ∧
  ImmediateRow 0x0E (fun rs rt imm => .xori rs rt imm) ∧
  ImmediateRow 0x0F (fun _ rt imm => .lui rt imm) ∧
  (∀ rs rt rd s, Runs (.and rs rt rd) s fun t => ∃ v : Word, ImmediateWrite rd v s t ∧
    ∀ k < 32, v.getLsbD k = ((s.readReg rs).getLsbD k && (s.readReg rt).getLsbD k)) ∧
  (∀ rs rt rd s, Runs (.or rs rt rd) s fun t => ∃ v : Word, ImmediateWrite rd v s t ∧
    ∀ k < 32, v.getLsbD k = ((s.readReg rs).getLsbD k || (s.readReg rt).getLsbD k)) ∧
  (∀ rs rt rd s, Runs (.xor rs rt rd) s fun t => ∃ v : Word, ImmediateWrite rd v s t ∧
    ∀ k < 32, v.getLsbD k = ((s.readReg rs).getLsbD k != (s.readReg rt).getLsbD k)) ∧
  (∀ rs rt rd s, Runs (.nor rs rt rd) s fun t => ∃ v : Word, ImmediateWrite rd v s t ∧
    ∀ k < 32, v.getLsbD k = !((s.readReg rs).getLsbD k || (s.readReg rt).getLsbD k)) ∧
  (∀ rs rt imm s, Runs (.andi rs rt imm) s fun t => ∃ v : Word, ImmediateWrite rt v s t ∧
    ∀ k < 32, v.getLsbD k = ((s.readReg rs).getLsbD k && (k < 16 && imm.getLsbD k))) ∧
  (∀ rs rt imm s, Runs (.ori rs rt imm) s fun t => ∃ v : Word, ImmediateWrite rt v s t ∧
    ∀ k < 32, v.getLsbD k = ((s.readReg rs).getLsbD k || (k < 16 && imm.getLsbD k))) ∧
  (∀ rs rt imm s, Runs (.xori rs rt imm) s fun t => ∃ v : Word, ImmediateWrite rt v s t ∧
    ∀ k < 32, v.getLsbD k = ((s.readReg rs).getLsbD k != (k < 16 && imm.getLsbD k))) ∧
  (∀ rt imm s, Runs (.lui rt imm) s fun t => ∃ v : Word, ImmediateWrite rt v s t ∧
    v.toNat = imm.toNat * 2 ^ 16)

/-- R196 to R201: the shifts, bit by bit; a variable shift uses the low five bits of its register. -/
def Obligations.ShiftResults : Prop :=
  SpecialRow 0x00 (fun _ rt rd sa => .sll rt rd sa) ∧
  SpecialRow 0x02 (fun _ rt rd sa => .srl rt rd sa) ∧
  SpecialRow 0x03 (fun _ rt rd sa => .sra rt rd sa) ∧
  SpecialRow 0x04 (fun rs rt rd _ => .sllv rs rt rd) ∧
  SpecialRow 0x06 (fun rs rt rd _ => .srlv rs rt rd) ∧
  SpecialRow 0x07 (fun rs rt rd _ => .srav rs rt rd) ∧
  (∀ rt rd sa s, Runs (.sll rt rd sa) s fun t => ∃ v : Word, ImmediateWrite rd v s t ∧
    v.toNat = (s.readReg rt).toNat * 2 ^ sa.toNat % 2 ^ 32) ∧
  (∀ rt rd sa s, Runs (.srl rt rd sa) s fun t => ∃ v : Word, ImmediateWrite rd v s t ∧
    v.toNat = (s.readReg rt).toNat / 2 ^ sa.toNat) ∧
  (∀ rt rd sa s, Runs (.sra rt rd sa) s fun t => ∃ v : Word, ImmediateWrite rd v s t ∧
    v.toInt = (s.readReg rt).toInt / 2 ^ sa.toNat) ∧
  (∀ rs rt rd s, Runs (.sllv rs rt rd) s fun t => ∃ v : Word, ImmediateWrite rd v s t ∧
    v.toNat = (s.readReg rt).toNat * 2 ^ ((s.readReg rs).toNat % 32) % 2 ^ 32) ∧
  (∀ rs rt rd s, Runs (.srlv rs rt rd) s fun t => ∃ v : Word, ImmediateWrite rd v s t ∧
    v.toNat = (s.readReg rt).toNat / 2 ^ ((s.readReg rs).toNat % 32)) ∧
  (∀ rs rt rd s, Runs (.srav rs rt rd) s fun t => ∃ v : Word, ImmediateWrite rd v s t ∧
    v.toInt = (s.readReg rt).toInt / 2 ^ ((s.readReg rs).toNat % 32))

/-- R206 to R209: the compares write 0 or 1; SLTIU compares unsigned with the sign-extended
immediate. -/
def Obligations.CompareResults : Prop :=
  SpecialRow 0x2A (fun rs rt rd _ => .slt rs rt rd) ∧
  SpecialRow 0x2B (fun rs rt rd _ => .sltu rs rt rd) ∧
  ImmediateRow 0x0A (fun rs rt imm => .slti rs rt imm) ∧
  ImmediateRow 0x0B (fun rs rt imm => .sltiu rs rt imm) ∧
  (∀ rs rt rd s, Runs (.slt rs rt rd) s (ImmediateWrite rd
    (if (s.readReg rs).toInt < (s.readReg rt).toInt then 1 else 0) s)) ∧
  (∀ rs rt rd s, Runs (.sltu rs rt rd) s (ImmediateWrite rd
    (if (s.readReg rs).toNat < (s.readReg rt).toNat then 1 else 0) s)) ∧
  (∀ rs rt imm s, Runs (.slti rs rt imm) s (ImmediateWrite rt
    (if (s.readReg rs).toInt < imm.toInt then 1 else 0) s)) ∧
  (∀ rs rt imm s, Runs (.sltiu rs rt imm) s (ImmediateWrite rt
    (if ((s.readReg rs).toNat : Int) < imm.toInt % 2 ^ 32 then 1 else 0) s))

/-! ### Multiply, divide, HI and LO -/

/-- R221, R222: HI and LO together are the exact product, signed or unsigned. -/
def Obligations.MultiplyResults : Prop :=
  SpecialRow 0x18 (fun rs rt _ _ => .mult rs rt) ∧
  SpecialRow 0x19 (fun rs rt _ _ => .multu rs rt) ∧
  (∀ rs rt s, Runs (.mult rs rt) s fun t => ∃ hi lo : Word, WroteHiLo hi lo s t ∧
    hi.toInt * 2 ^ 32 + lo.toNat = (s.readReg rs).toInt * (s.readReg rt).toInt) ∧
  (∀ rs rt s, Runs (.multu rs rt) s fun t => ∃ hi lo : Word, WroteHiLo hi lo s t ∧
    hi.toNat * 2 ^ 32 + lo.toNat = (s.readReg rs).toNat * (s.readReg rt).toNat)

/-- R223, R224, R229: division truncates toward zero and the remainder has the dividend's sign; the
results for a zero divisor and for -2^31 / -1 are those of decision D23 (assumption 17). -/
def Obligations.DivideResults : Prop :=
  SpecialRow 0x1A (fun rs rt _ _ => .div rs rt) ∧
  SpecialRow 0x1B (fun rs rt _ _ => .divu rs rt) ∧
  (∀ rs rt s, s.readReg rt ≠ 0 →
    ¬(s.readReg rs = 0x80000000 ∧ s.readReg rt = 0xFFFFFFFF) →
    Runs (.div rs rt) s fun t => ∃ hi lo : Word, WroteHiLo hi lo s t ∧
      (s.readReg rs).toInt = lo.toInt * (s.readReg rt).toInt + hi.toInt ∧
      hi.toInt.natAbs < (s.readReg rt).toInt.natAbs ∧
      (hi = 0 ∨ (hi.toInt < 0 ↔ (s.readReg rs).toInt < 0))) ∧
  (∀ rs rt s, s.readReg rt ≠ 0 → Runs (.divu rs rt) s fun t => ∃ hi lo : Word,
    WroteHiLo hi lo s t ∧
      (s.readReg rs).toNat = lo.toNat * (s.readReg rt).toNat + hi.toNat ∧
      hi.toNat < (s.readReg rt).toNat) ∧
  (∀ rs rt s, s.readReg rt = 0 → Runs (.div rs rt) s (WroteHiLo (s.readReg rs)
    (if (s.readReg rs).toInt < 0 then 1 else 0xFFFFFFFF) s)) ∧
  (∀ rs rt s, s.readReg rs = 0x80000000 → s.readReg rt = 0xFFFFFFFF →
    Runs (.div rs rt) s (WroteHiLo 0 0x80000000 s)) ∧
  (∀ rs rt s, s.readReg rt = 0 →
    Runs (.divu rs rt) s (WroteHiLo (s.readReg rs) 0xFFFFFFFF s))

/-- R225 to R228: the moves of HI and LO. -/
def Obligations.HiLoMoves : Prop :=
  SpecialRow 0x10 (fun _ _ rd _ => .mfhi rd) ∧ SpecialRow 0x12 (fun _ _ rd _ => .mflo rd) ∧
  SpecialRow 0x11 (fun rs _ _ _ => .mthi rs) ∧ SpecialRow 0x13 (fun rs _ _ _ => .mtlo rs) ∧
  (∀ rd s, Runs (.mfhi rd) s (ImmediateWrite rd s.hi s)) ∧
  (∀ rd s, Runs (.mflo rd) s (ImmediateWrite rd s.lo s)) ∧
  (∀ rs s, Runs (.mthi rs) s (WroteHiLo (s.readReg rs) s.lo s)) ∧
  (∀ rs s, Runs (.mtlo rs) s (WroteHiLo s.hi (s.readReg rs) s))

/-! ### Jumps and branches -/

/-- J, JAL, JR and JALR outside a delay slot record their target; JAL and JALR link, JALR reading its
target before (R241 to R244; decision D24). -/
def Obligations.JumpsRecordTarget : Prop :=
  (∀ w, opcodeOf w = 2 → decode w = .j (targetOf w)) ∧
  (∀ w, opcodeOf w = 3 → decode w = .jal (targetOf w)) ∧
  SpecialRow 0x08 (fun rs _ _ _ => .jr rs) ∧ SpecialRow 0x09 (fun rs _ rd _ => .jalr rs rd) ∧
  (∀ target s, s.bdPending = false → Runs (.j target) s fun t => ∃ a : Word,
    a.toNat = (s.pc + 4).toNat / 2 ^ 28 * 2 ^ 28 + target.toNat * 4 ∧
    RecordsJump a s t ∧ NoRegisterWrite s t) ∧
  (∀ target s, s.bdPending = false → Runs (.jal target) s fun t => ∃ a : Word,
    a.toNat = (s.pc + 4).toNat / 2 ^ 28 * 2 ^ 28 + target.toNat * 4 ∧
    RecordsJump a s t ∧ Links 31 s t) ∧
  (∀ rs s, s.bdPending = false → Runs (.jr rs) s fun t =>
    RecordsJump (s.readReg rs) s t ∧ NoRegisterWrite s t) ∧
  (∀ rs rd s, s.bdPending = false → Runs (.jalr rs rd) s fun t =>
    RecordsJump (s.readReg rs) s t ∧ Links rd s t)

/-- A branch whose condition is `c` in state `s`: taken, outside a delay slot, it records its target
and writes no register; not taken, even in a delay slot, it only advances (R240). -/
def BranchRule (i : Instr) (imm : BitVec 16) (c : Prop) (s : State) : Prop :=
  (c → s.bdPending = false → Runs i s fun t =>
    RecordsJump (s.pc + 4 + BitVec.ofInt 32 (imm.toInt * 4)) s t ∧ NoRegisterWrite s t) ∧
  (¬c → Runs i s (OnlyAdvances s))

/-- R245 to R250: the conditional branches. -/
def Obligations.BranchesOnCondition : Prop :=
  ImmediateRow 0x04 (fun rs rt imm => .beq rs rt imm) ∧
  ImmediateRow 0x05 (fun rs rt imm => .bne rs rt imm) ∧
  ImmediateRow 0x06 (fun rs _ imm => .blez rs imm) ∧
  ImmediateRow 0x07 (fun rs _ imm => .bgtz rs imm) ∧
  RegimmRow 0x00 .bltz ∧ RegimmRow 0x01 .bgez ∧
  (∀ rs rt imm s, BranchRule (.beq rs rt imm) imm (s.readReg rs = s.readReg rt) s) ∧
  (∀ rs rt imm s, BranchRule (.bne rs rt imm) imm (s.readReg rs ≠ s.readReg rt) s) ∧
  (∀ rs imm s, BranchRule (.blez rs imm) imm ((s.readReg rs).toInt ≤ 0) s) ∧
  (∀ rs imm s, BranchRule (.bgtz rs imm) imm ((s.readReg rs).toInt > 0) s) ∧
  (∀ rs imm s, BranchRule (.bltz rs imm) imm ((s.readReg rs).toInt < 0) s) ∧
  (∀ rs imm s, BranchRule (.bgez rs imm) imm ((s.readReg rs).toInt ≥ 0) s)

/-- A linking branch whose condition is `c` in state `s`: it links in register 31 taken or not. -/
def LinkingBranchRule (i : Instr) (imm : BitVec 16) (c : Prop) (s : State) : Prop :=
  (c → s.bdPending = false → Runs i s fun t =>
    RecordsJump (s.pc + 4 + BitVec.ofInt 32 (imm.toInt * 4)) s t ∧ Links 31 s t) ∧
  (¬c → Runs i s (ImmediateWrite 31 (s.pc + 8) s))

/-- BLTZAL and BGEZAL test the register as it was before the link (R251, R252; decision D24). -/
def Obligations.LinkingBranches : Prop :=
  RegimmRow 0x10 .bltzal ∧ RegimmRow 0x11 .bgezal ∧
  (∀ rs imm s, LinkingBranchRule (.bltzal rs imm) imm ((s.readReg rs).toInt < 0) s) ∧
  (∀ rs imm s, LinkingBranchRule (.bgezal rs imm) imm ((s.readReg rs).toInt ≥ 0) s)

/-- A jump, or a branch whose condition holds, stops in the delay slot of another (R165, R254;
decision D11, assumption 14). -/
def Obligations.JumpInDelaySlotStops : Prop :=
  ∀ s : State, s.bdPending = true →
    (∀ target, exec (.j target) s = .fault .jumpInDelaySlot) ∧
    (∀ target, exec (.jal target) s = .fault .jumpInDelaySlot) ∧
    (∀ rs, exec (.jr rs) s = .fault .jumpInDelaySlot) ∧
    (∀ rs rd, exec (.jalr rs rd) s = .fault .jumpInDelaySlot) ∧
    (∀ rs rt imm, s.readReg rs = s.readReg rt →
      exec (.beq rs rt imm) s = .fault .jumpInDelaySlot) ∧
    (∀ rs rt imm, s.readReg rs ≠ s.readReg rt →
      exec (.bne rs rt imm) s = .fault .jumpInDelaySlot) ∧
    (∀ rs imm, (s.readReg rs).toInt ≤ 0 → exec (.blez rs imm) s = .fault .jumpInDelaySlot) ∧
    (∀ rs imm, (s.readReg rs).toInt > 0 → exec (.bgtz rs imm) s = .fault .jumpInDelaySlot) ∧
    (∀ rs imm, (s.readReg rs).toInt < 0 → exec (.bltz rs imm) s = .fault .jumpInDelaySlot ∧
      exec (.bltzal rs imm) s = .fault .jumpInDelaySlot) ∧
    (∀ rs imm, (s.readReg rs).toInt ≥ 0 → exec (.bgez rs imm) s = .fault .jumpInDelaySlot ∧
      exec (.bgezal rs imm) s = .fault .jumpInDelaySlot)

/-! ### Loads and stores -/

/-- R270 to R275: the aligned loads: their address, their value from the bytes of memory, their one bus
call, and the trap of a misaligned address, which has no other effect (order of the bytes: R83,
assumption 3; trap entry: assumption 20). -/
def Obligations.LoadResults : Prop :=
  ImmediateRow 0x20 (fun rs rt imm => .lb rs rt imm) ∧
  ImmediateRow 0x24 (fun rs rt imm => .lbu rs rt imm) ∧
  ImmediateRow 0x21 (fun rs rt imm => .lh rs rt imm) ∧
  ImmediateRow 0x25 (fun rs rt imm => .lhu rs rt imm) ∧
  ImmediateRow 0x23 (fun rs rt imm => .lw rs rt imm) ∧
  ∀ (rs rt : RegIdx) (imm : BitVec 16) (s : State) (a : Word),
    a = s.readReg rs + BitVec.ofInt 32 imm.toInt →
    (Runs (.lb rs rt imm) s fun t => ∃ v : Word, v.toInt = (s.mem.readByte a).toInt ∧
      DelayedWrite rt v [.readByte a] s t) ∧
    (Runs (.lbu rs rt imm) s fun t => ∃ v : Word, v.toNat = (s.mem.readByte a).toNat ∧
      DelayedWrite rt v [.readByte a] s t) ∧
    (a.toNat % 2 = 0 → Runs (.lh rs rt imm) s fun t => ∃ v : Word,
      v.toInt = (s.mem.readByte a).toNat + (s.mem.readByte (a + 1)).toInt * 2 ^ 8 ∧
      DelayedWrite rt v [.readHalf a] s t) ∧
    (a.toNat % 2 = 0 → Runs (.lhu rs rt imm) s fun t => ∃ v : Word,
      v.toNat = (s.mem.readByte a).toNat + (s.mem.readByte (a + 1)).toNat * 2 ^ 8 ∧
      DelayedWrite rt v [.readHalf a] s t) ∧
    (a.toNat % 4 = 0 → Runs (.lw rs rt imm) s fun t => ∃ v : Word,
      v.toNat = (s.mem.readByte a).toNat + (s.mem.readByte (a + 1)).toNat * 2 ^ 8
        + (s.mem.readByte (a + 2)).toNat * 2 ^ 16 + (s.mem.readByte (a + 3)).toNat * 2 ^ 24 ∧
      DelayedWrite rt v [.readWord a] s t) ∧
    (a.toNat % 2 ≠ 0 → Traps (.lh rs rt imm) s 4 0 (some a)) ∧
    (a.toNat % 2 ≠ 0 → Traps (.lhu rs rt imm) s 4 0 (some a)) ∧
    (a.toNat % 4 ≠ 0 → Traps (.lw rs rt imm) s 4 0 (some a))

/-- The value LWL and LWR keep bytes of: the load pending for the same register, else the register
(R280). -/
def MergesInto (rt : RegIdx) (s : State) (old : Word) : Prop :=
  (∀ p, s.ldCur = some ⟨rt, p⟩ → old = p) ∧
    ((∀ p, s.ldCur ≠ some ⟨rt, p⟩) → old = s.readReg rt)

/-- LWL and LWR byte by byte, with `k` the lane of the address; neither ever traps (R280 to R282;
decision D22, assumption 27; order of the bytes: R83, assumption 3). -/
def Obligations.UnalignedLoadLanes : Prop :=
  ImmediateRow 0x22 (fun rs rt imm => .lwl rs rt imm) ∧
  ImmediateRow 0x26 (fun rs rt imm => .lwr rs rt imm) ∧
  ∀ (rs rt : RegIdx) (imm : BitVec 16) (s : State) (a old : Word) (k : Nat),
    a = s.readReg rs + BitVec.ofInt 32 imm.toInt → k = a.toNat % 4 → MergesInto rt s old →
    (Runs (.lwl rs rt imm) s fun t => ∃ v : Word,
      DelayedWrite rt v [.readWord (a - BitVec.ofNat 32 k)] s t ∧
      ∀ j < 4, v.extractLsb' (8 * j) 8 =
        if 3 ≤ j + k then s.mem.readByte (a + BitVec.ofNat 32 j - 3)
        else old.extractLsb' (8 * j) 8) ∧
    (Runs (.lwr rs rt imm) s fun t => ∃ v : Word,
      DelayedWrite rt v [.readWord (a - BitVec.ofNat 32 k)] s t ∧
      ∀ j < 4, v.extractLsb' (8 * j) 8 =
        if j + k ≤ 3 then s.mem.readByte (a + BitVec.ofNat 32 j)
        else old.extractLsb' (8 * j) 8)

/-- The pair LWR at an address and LWL three bytes on, in consecutive steps, leaves the unaligned word
pending, whatever the register held and whichever register is the base (R280 to R282, R579;
decision D22, assumption 27; order of the bytes: R83, assumption 3). -/
def Obligations.UnalignedLoadPair : Prop :=
  ∀ (rs rt : RegIdx) (imm imm3 : BitVec 16) (s : State) (a : Word), s.ldCur = none →
    imm3.toInt = imm.toInt + 3 → a = s.readReg rs + BitVec.ofInt 32 imm.toInt →
    Runs (.lwr rs rt imm) s fun t => Runs (.lwl rs rt imm3) t.commitPhase fun u =>
      ∃ v : Word, u.ldNext = some ⟨rt, v⟩ ∧ u.commitPhase.readReg rt = s.readReg rt ∧
        ∀ j < 4, v.extractLsb' (8 * j) 8 = s.mem.readByte (a + BitVec.ofNat 32 j)

/-- R283 to R285: the stores: the bytes at the address and no others, in the one call on the bus, and
the trap of a misaligned address, which has no other effect (order of the bytes: R83, assumption 3;
trap entry: assumption 20). -/
def Obligations.StoreResults : Prop :=
  ImmediateRow 0x28 (fun rs rt imm => .sb rs rt imm) ∧
  ImmediateRow 0x29 (fun rs rt imm => .sh rs rt imm) ∧
  ImmediateRow 0x2B (fun rs rt imm => .sw rs rt imm) ∧
  ∀ (rs rt : RegIdx) (imm : BitVec 16) (s : State) (v : Word), s.mem.wf = true →
    v = s.readReg rt →
    effectiveAddress rs imm s = s.readReg rs + BitVec.ofInt 32 imm.toInt ∧
    Runs (.sb rs rt imm) s (StoresBytes (effectiveAddress rs imm s) [v.extractLsb' 0 8]
      [.writeByte (effectiveAddress rs imm s) (v.extractLsb' 0 8)] s) ∧
    ((effectiveAddress rs imm s).toNat % 2 = 0 → Runs (.sh rs rt imm) s
      (StoresBytes (effectiveAddress rs imm s) [v.extractLsb' 0 8, v.extractLsb' 8 8]
        [.writeHalf (effectiveAddress rs imm s) (v.extractLsb' 0 16)] s)) ∧
    ((effectiveAddress rs imm s).toNat % 4 = 0 → Runs (.sw rs rt imm) s
      (StoresBytes (effectiveAddress rs imm s)
        [v.extractLsb' 0 8, v.extractLsb' 8 8, v.extractLsb' 16 8, v.extractLsb' 24 8]
        [.writeWord (effectiveAddress rs imm s) v] s)) ∧
    ((effectiveAddress rs imm s).toNat % 2 ≠ 0 →
      Traps (.sh rs rt imm) s 5 0 (some (effectiveAddress rs imm s))) ∧
    ((effectiveAddress rs imm s).toNat % 4 ≠ 0 →
      Traps (.sw rs rt imm) s 5 0 (some (effectiveAddress rs imm s)))

/-- SWL stores the high `k + 1` bytes of the register up to the address, SWR the low `4 - k` bytes from
the address on, and no other byte changes; each reads the aligned word and writes it whole, as memory
holds it afterwards (R288, R289; decision D27, assumption 26; order of the bytes: R83, assumption 3). -/
def Obligations.PartialStoreLanes : Prop :=
  ImmediateRow 0x2A (fun rs rt imm => .swl rs rt imm) ∧
  ImmediateRow 0x2E (fun rs rt imm => .swr rs rt imm) ∧
  ∀ (rs rt : RegIdx) (imm : BitVec 16) (s : State) (k : Nat) (w : Word), s.mem.wf = true →
    k = (effectiveAddress rs imm s).toNat % 4 →
    w = effectiveAddress rs imm s - BitVec.ofNat 32 k →
    (Runs (.swl rs rt imm) s fun t =>
      StoresBytes w
        ((List.range (k + 1)).map fun j => (s.readReg rt).extractLsb' (8 * (3 - k + j)) 8)
        [.readWord w, .writeWord w (t.mem.readWord w)] s t) ∧
    (Runs (.swr rs rt imm) s fun t =>
      StoresBytes (effectiveAddress rs imm s)
        ((List.range (4 - k)).map fun j => (s.readReg rt).extractLsb' (8 * j) 8)
        [.readWord w, .writeWord w (t.mem.readWord w)] s t)

/-! ### System and COP0 -/

/-- R301, R302: SYSCALL and BREAK take their trap in any mode, whatever their code field holds (trap
entry: assumption 20). -/
def Obligations.SyscallBreakTrap : Prop :=
  SpecialRow 0x0C (fun _ _ _ _ => .syscall) ∧ SpecialRow 0x0D (fun _ _ _ _ => .brk) ∧
  ∀ s : State, Traps .syscall s 8 0 none ∧ Traps .brk s 9 0 none

/-- MFC0 reads each mapped register by a delayed write, and stops at an unmapped number (R303, R306;
decisions D8, D10). -/
def Obligations.Mfc0Reads : Prop :=
  MoveRow 0x10 0x00 .mfc0 ∧
  ∀ (rt : RegIdx) (s : State), s.cop0Usable = true →
    Runs (.mfc0 rt 3) s (DelayedWrite rt s.cop0.bpc [] s) ∧
    Runs (.mfc0 rt 5) s (DelayedWrite rt s.cop0.bda [] s) ∧
    Runs (.mfc0 rt 6) s (DelayedWrite rt s.cop0.tar [] s) ∧
    Runs (.mfc0 rt 7) s (DelayedWrite rt s.cop0.dcic [] s) ∧
    Runs (.mfc0 rt 8) s (DelayedWrite rt s.cop0.badVaddr [] s) ∧
    Runs (.mfc0 rt 9) s (DelayedWrite rt s.cop0.bdam [] s) ∧
    Runs (.mfc0 rt 11) s (DelayedWrite rt s.cop0.bpcm [] s) ∧
    Runs (.mfc0 rt 12) s (DelayedWrite rt s.cop0.sr [] s) ∧
    Runs (.mfc0 rt 13) s (DelayedWrite rt s.cop0.cause [] s) ∧
    Runs (.mfc0 rt 14) s (DelayedWrite rt s.cop0.epc [] s) ∧
    Runs (.mfc0 rt 15) s (DelayedWrite rt s.cop0.prid [] s) ∧
    ∀ rd, rd ∉ ([3, 5, 6, 7, 8, 9, 11, 12, 13, 14, 15] : List RegIdx) →
      exec (.mfc0 rt rd) s = .fault .unmappedCop0Register

/-- The whole effect of MTC0: COP0 becomes `c`, and an SR write is noted where `noted` (R305). -/
def WroteCop0 (c : Cop0) (noted : Bool) (s t : State) : Prop :=
  t = { s with cop0 := c, srWritten := s.srWritten || noted, pc := s.pc + 4 }

/-- MTC0 writes each register with its own mask, and read-only registers ignore it (R305); an unmapped
number stops (R306; decision D8, assumption 13). -/
def Obligations.Mtc0Writes : Prop :=
  MoveRow 0x10 0x04 .mtc0 ∧
  ∀ (rt : RegIdx) (s : State) (v : Word), s.cop0Usable = true → v = s.readReg rt →
    Runs (.mtc0 rt 3) s (WroteCop0 { s.cop0 with bpc := v } false s) ∧
    Runs (.mtc0 rt 5) s (WroteCop0 { s.cop0 with bda := v } false s) ∧
    Runs (.mtc0 rt 7) s (WroteCop0 { s.cop0 with dcic := v } false s) ∧
    Runs (.mtc0 rt 9) s (WroteCop0 { s.cop0 with bdam := v } false s) ∧
    Runs (.mtc0 rt 11) s (WroteCop0 { s.cop0 with bpcm := v } false s) ∧
    Runs (.mtc0 rt 12) s (WroteCop0 { s.cop0 with sr := v } true s) ∧
    (Runs (.mtc0 rt 13) s fun t => ∃ c : Word, WroteCop0 { s.cop0 with cause := c } false s t ∧
      ∀ k < 32, c.getLsbD k = if k = 8 ∨ k = 9 then v.getLsbD k else s.cop0.cause.getLsbD k) ∧
    Runs (.mtc0 rt 6) s (WroteCop0 s.cop0 false s) ∧
    Runs (.mtc0 rt 8) s (WroteCop0 s.cop0 false s) ∧
    Runs (.mtc0 rt 14) s (WroteCop0 s.cop0 false s) ∧
    Runs (.mtc0 rt 15) s (WroteCop0 s.cop0 false s) ∧
    ∀ rd, rd ∉ ([3, 5, 6, 7, 8, 9, 11, 12, 13, 14, 15] : List RegIdx) →
      exec (.mtc0 rt rd) s = .fault .unmappedCop0Register

/-- R304: RFE pops the mode stack, leaves the rest of SR and the program counter's course alone, and
is noted as a write of SR; in user mode with CU0 clear it traps (trap entry: assumption 20). -/
def Obligations.RfePops : Prop :=
  (∀ w, opcodeOf w = 0x10 → w.getLsbD 25 = true → functorOf w = 0x10 → decode w = .rfe) ∧
  (∀ s : State, s.cop0Usable = true → Runs .rfe s fun t =>
    t.cop0.sr.extractLsb' 0 4 = s.cop0.sr.extractLsb' 2 4 ∧
    t.cop0.sr.extractLsb' 4 28 = s.cop0.sr.extractLsb' 4 28 ∧
    t = { s with cop0 := { s.cop0 with sr := t.cop0.sr }, srWritten := true, pc := s.pc + 4 }) ∧
  (∀ s : State, s.cop0.sr.getLsbD 1 = true → s.cop0.sr.getLsbD 28 = false →
    Traps .rfe s 11 0 none)

/-- In user mode with CU0 clear every COP0 word takes CoprocessorUnusable with CE 0, before anything
of it is looked at (R300, R307, R551; decision D7). -/
def Obligations.Cop0UnusableTraps : Prop :=
  ∀ s : State, s.cop0.sr.getLsbD 1 = true → s.cop0.sr.getLsbD 28 = false →
    (∀ w, opcodeOf w = 0x10 → Traps (decode w) s 11 0 none) ∧
    (∀ rt rd, Traps (.mfc0 rt rd) s 11 0 none) ∧ (∀ rt rd, Traps (.mtc0 rt rd) s 11 0 none) ∧
    Traps .rfe s 11 0 none ∧ (∀ rs f, Traps (.cop0Reserved rs f) s 11 0 none)

/-- The words of the absent coprocessors and the memory forms of COP0 trap always, with the
coprocessor's number in CE, whatever SR holds (R308 to R315; decision D7, assumption 22). Trap entry is
that of assumption 20 (R520; D18, D19). -/
def Obligations.AbsentCoprocessorsTrap : Prop :=
  OpcodeRow 0x11 .cop1 ∧ OpcodeRow 0x13 .cop3 ∧ OpcodeRow 0x30 .lwc0 ∧ OpcodeRow 0x31 .lwc1 ∧
  OpcodeRow 0x33 .lwc3 ∧ OpcodeRow 0x38 .swc0 ∧ OpcodeRow 0x39 .swc1 ∧ OpcodeRow 0x3B .swc3 ∧
  ∀ s : State,
    Traps .cop1 s 11 1 none ∧ Traps .cop3 s 11 3 none ∧ Traps .lwc0 s 11 0 none ∧
    Traps .lwc1 s 11 1 none ∧ Traps .lwc3 s 11 3 none ∧ Traps .swc0 s 11 0 none ∧
    Traps .swc1 s 11 1 none ∧ Traps .swc3 s 11 3 none

/-! ### GTE transfers -/

/-- R331, R332: MFC2 and CFC2 read the port, data or control number, by a delayed write; with CU2 clear
they take CoprocessorUnusable (trap entry: assumption 20). -/
def Obligations.MovesFromGte : Prop :=
  MoveRow 0x12 0x00 .mfc2 ∧ MoveRow 0x12 0x02 .cfc2 ∧
  (∀ (rt rd : RegIdx) (n m : BitVec 6) (s : State), s.cop0.sr.getLsbD 30 = true →
    n.toNat = rd.toNat → m.toNat = 32 + rd.toNat →
    Runs (.mfc2 rt rd) s (DelayedWrite rt (s.gte.portRead n) [] s) ∧
    Runs (.cfc2 rt rd) s (DelayedWrite rt (s.gte.portRead m) [] s)) ∧
  (∀ (rt rd : RegIdx) (s : State), s.cop0.sr.getLsbD 30 = false →
    Traps (.mfc2 rt rd) s 11 2 none ∧ Traps (.cfc2 rt rd) s 11 2 none)

/-- R333, R334: MTC2 and CTC2 write the port, data or control number, at once; with CU2 clear they take
CoprocessorUnusable (trap entry: assumption 20; SXY2's write: assumption 7). -/
def Obligations.MovesToGte : Prop :=
  MoveRow 0x12 0x04 .mtc2 ∧ MoveRow 0x12 0x06 .ctc2 ∧
  (∀ (rt rd : RegIdx) (n m : BitVec 6) (s : State), s.cop0.sr.getLsbD 30 = true →
    n.toNat = rd.toNat → m.toNat = 32 + rd.toNat →
    (Runs (.mtc2 rt rd) s fun t => OnlyGte s t ∧
      t.gte = s.gte.portWrite config.gteSxy2WritePushes n (s.readReg rt)) ∧
    (Runs (.ctc2 rt rd) s fun t => OnlyGte s t ∧
      t.gte = s.gte.portWrite config.gteSxy2WritePushes m (s.readReg rt))) ∧
  (∀ (rt rd : RegIdx) (s : State), s.cop0.sr.getLsbD 30 = false →
    Traps (.mtc2 rt rd) s 11 2 none ∧ Traps (.ctc2 rt rd) s 11 2 none)

/-- R335, R336: LWC2 writes a data register from memory in its own step; SWC2 stores a port read; both
take the trap of a misaligned address, and before it CoprocessorUnusable with CU2 clear, with no other
effect (order of the bytes: R83, assumption 3; trap entry: assumption 20; SXY2's write:
assumption 7). -/
def Obligations.GteLoadStore : Prop :=
  ImmediateRow 0x32 (fun rs rt imm => .lwc2 rs rt imm) ∧
  ImmediateRow 0x3A (fun rs rt imm => .swc2 rs rt imm) ∧
  (∀ (rs rt : RegIdx) (imm : BitVec 16) (s : State), s.cop0.sr.getLsbD 30 = false →
    Traps (.lwc2 rs rt imm) s 11 2 none ∧ Traps (.swc2 rs rt imm) s 11 2 none) ∧
  ∀ (rs rt : RegIdx) (imm : BitVec 16) (n : BitVec 6) (s : State), s.mem.wf = true →
    s.cop0.sr.getLsbD 30 = true → n.toNat = rt.toNat →
    effectiveAddress rs imm s = s.readReg rs + BitVec.ofInt 32 imm.toInt ∧
    ((effectiveAddress rs imm s).toNat % 4 = 0 →
      (Runs (.lwc2 rs rt imm) s fun t =>
        t = { s with
          gte := s.gte.portWrite config.gteSxy2WritePushes n
            (s.mem.readWord (effectiveAddress rs imm s))
          busCalls := s.busCalls ++ [.readWord (effectiveAddress rs imm s)]
          pc := s.pc + 4 }) ∧
      Runs (.swc2 rs rt imm) s (StoresBytes (effectiveAddress rs imm s)
        [(s.gte.portRead n).extractLsb' 0 8, (s.gte.portRead n).extractLsb' 8 8,
         (s.gte.portRead n).extractLsb' 16 8, (s.gte.portRead n).extractLsb' 24 8]
        [.writeWord (effectiveAddress rs imm s) (s.gte.portRead n)] s)) ∧
    ((effectiveAddress rs imm s).toNat % 4 ≠ 0 →
      Traps (.lwc2 rs rt imm) s 4 0 (some (effectiveAddress rs imm s)) ∧
      Traps (.swc2 rs rt imm) s 5 0 (some (effectiveAddress rs imm s)))

/-- With CU2 clear every COP2 word, LWC2 and SWC2 take CoprocessorUnusable with CE 2 before anything
else of them is looked at, in kernel mode too (R330, R450, R551; decision D7). -/
def Obligations.GteUnusableTraps : Prop :=
  ∀ s : State, s.cop0.sr.getLsbD 30 = false →
    (∀ i : Instr, i.family.needsGte = true → Traps i s 11 2 none) ∧
    (∀ w, opcodeOf w ∈ ([0x12, 0x32, 0x3A] : List (BitVec 6)) → Traps (decode w) s 11 2 none)

/-- What a port read of number `n` returns after a port write of `v` to it, by the table of R372; for
29 and 31, which ignore the write, what it returned before. -/
def ReadBack (n : Nat) (v before after : Word) : Prop :=
  (n ∈ [1, 3, 5, 8, 9, 10, 11, 36, 44, 52, 58, 59, 61, 62] →
    after.toInt = (BitVec.ofNat 16 v.toNat).toInt) ∧
  (n ∈ [7, 16, 17, 18, 19] → after.toNat = v.toNat % 2 ^ 16) ∧
  (n = 28 → after.toNat = v.toNat % 2 ^ 15) ∧
  (n ∈ [29, 31] → after = before) ∧
  (n = 63 → after.extractLsb' 0 12 = 0 ∧ after.extractLsb' 12 19 = v.extractLsb' 12 19 ∧
    (after.getLsbD 31 = true ↔
      ∃ k, (23 ≤ k ∧ k ≤ 30 ∨ 13 ≤ k ∧ k ≤ 18) ∧ v.getLsbD k = true)) ∧
  (n ∉ [1, 3, 5, 7, 8, 9, 10, 11, 16, 17, 18, 19, 28, 29, 31, 36, 44, 52, 58, 59, 61, 62, 63] →
    after = v)

/-- The port numbers whose read a write of number `n` can change: the number itself but for 29 and 31,
and for 9 to 11 the packed colour, for 14 and 15 the screen FIFO, for 28 the IR triplet, for 30 LZCR. -/
def portTouched (pushes : Bool) (n : Nat) : List Nat :=
  if n = 15 ∨ n = 14 ∧ pushes = true then [12, 13, 14, 15]
  else if n = 14 then [14, 15]
  else if n ∈ [9, 10, 11] then [n, 28, 29]
  else if n = 28 then [9, 10, 11, 28, 29]
  else if n = 30 then [30, 31]
  else if n ∈ [29, 31] then []
  else [n]

/-- What a port write of `v` to number `n` does to registers other than `n` (R352, R353, R362 to
R364). -/
def PortEffects (pushes : Bool) (n : Nat) (v : Word) (before after : Gte) : Prop :=
  (n = 15 ∨ n = 14 ∧ pushes = true →
    after.portRead 12 = before.portRead 13 ∧ after.portRead 13 = before.portRead 14 ∧
    after.portRead 14 = v ∧ after.portRead 15 = v) ∧
  (n = 14 → pushes = false → after.portRead 15 = v) ∧
  (n = 28 → (after.portRead 9).toNat = v.toNat % 2 ^ 5 * 2 ^ 7 ∧
    (after.portRead 10).toNat = v.toNat / 2 ^ 5 % 2 ^ 5 * 2 ^ 7 ∧
    (after.portRead 11).toNat = v.toNat / 2 ^ 10 % 2 ^ 5 * 2 ^ 7) ∧
  (n ∈ [29, 31] → after = before) ∧
  (∀ m : BitVec 6, m.toNat ∉ portTouched pushes n → after.portRead m = before.portRead m)

/-- A component of the packed colour, from an IR register (R361). -/
def packedFrom (ir : Half) : Nat := (min (max (ir.toInt / 2 ^ 7) 0) 0x1F).toNat

/-- What the numbers without storage of their own read: 15 the newest screen entry, 28 and 29 the packed
IR triplet, 31 the number of leading bits of LZCS equal to its sign (R353, R361, R364). -/
def DerivedReads (g : Gte) : Prop :=
  g.portRead 15 = g.portRead 14 ∧ g.portRead 29 = g.portRead 28 ∧
  (g.portRead 28).toNat = packedFrom g.ir1 + packedFrom g.ir2 * 2 ^ 5 + packedFrom g.ir3 * 2 ^ 10 ∧
  ∃ k, 1 ≤ k ∧ k ≤ 32 ∧ (g.portRead 31).toNat = k ∧
    (∀ j < k, g.lzcs.getLsbD (31 - j) = g.lzcs.getLsbD 31) ∧
    (k < 32 → g.lzcs.getLsbD (31 - k) ≠ g.lzcs.getLsbD 31)

/-- Every port number reads back as the table of R372 says; a write changes no other number's read but
those it moves or derives, which change as R352, R353 and R362 to R364 say; and the numbers without
storage read what R353, R361 and R364 derive. It holds for both values of the parameter of number 14
(decision D25, assumption 7). -/
def Obligations.PortReadBack : Prop :=
  ∀ (pushes : Bool) (n : BitVec 6) (v : Word) (g : Gte),
    ReadBack n.toNat v (g.portRead n) ((g.portWrite pushes n v).portRead n) ∧
    PortEffects pushes n.toNat v g (g.portWrite pushes n v) ∧ DerivedReads g

/-! ### GTE commands -/

/-- With the GTE usable every command completes, and changes nothing but FLAG, the next address and
the registers R475 lists for it; what FLAG held before makes no difference (R66, R450, R475). -/
def Obligations.GteCommandFrames : Prop :=
  ∀ (s : State) (sf lm : Bool) (mx : MatrixSel) (vx : VectorSel) (tx : TranslationSel),
    s.cop0.sr.getLsbD 30 = true →
    (∀ i ∈ [Instr.nclip], Runs i s fun t => OnlyGte s t ∧ ChangesMac0 s.gte t.gte) ∧
    (∀ i ∈ [Instr.avsz3, .avsz4], Runs i s fun t => OnlyGte s t ∧ ChangesAverage s.gte t.gte) ∧
    (∀ i ∈ [Instr.op sf lm, .sqr sf lm, .mvmva sf mx vx tx lm], Runs i s fun t => OnlyGte s t ∧
      ChangesLanes s.gte t.gte) ∧
    (∀ i ∈ [Instr.dpcs sf lm, .dpct sf lm, .dcpl sf lm, .intpl sf lm, .ncs sf lm, .nct sf lm,
        .nccs sf lm, .ncct sf lm, .ncds sf lm, .ncdt sf lm, .cc sf lm, .cdp sf lm, .gpf sf lm,
        .gpl sf lm], Runs i s fun t => OnlyGte s t ∧ ChangesColours s.gte t.gte) ∧
    (∀ i ∈ [Instr.rtps sf lm, .rtpt sf lm], Runs i s fun t => OnlyGte s t ∧
      ChangesTransform s.gte t.gte) ∧
    (∀ (i : Instr) (f : Word), i.family = .gteCommand →
      exec i { s with gte := { s.gte with flag := f } } = exec i s)

/-- R453, R469, R470: NCLIP, AVSZ3 and AVSZ4: MAC0, OTZ and every flag they set. -/
def Obligations.ScalarGteResults : Prop :=
  ∀ s : State, s.cop0.sr.getLsbD 30 = true →
    (∀ x : Int, x = (s.gte.sxy1.sx.toInt - s.gte.sxy0.sx.toInt)
          * (s.gte.sxy2.sy.toInt - s.gte.sxy0.sy.toInt)
        - (s.gte.sxy2.sx.toInt - s.gte.sxy0.sx.toInt)
          * (s.gte.sxy1.sy.toInt - s.gte.sxy0.sy.toInt) →
      Runs .nclip s fun t => OnlyGte s t ∧ ChangesMac0 s.gte t.gte ∧
        t.gte.mac0 = BitVec.ofInt 32 x ∧ FlagIs (mac0Flags x) t.gte) ∧
    (∀ r : Int, r = s.gte.zsf3.toInt * (s.gte.sz1.toNat + s.gte.sz2.toNat + s.gte.sz3.toNat) →
      Runs .avsz3 s fun t => OnlyGte s t ∧ ChangesAverage s.gte t.gte ∧
        t.gte.mac0 = BitVec.ofInt 32 r ∧
        (t.gte.otz.toNat : Int) = min (max (r / 2 ^ 12) 0) 0xFFFF ∧
        FlagIs (mac0Flags r ++ [(18, Outside 0 0xFFFF (r / 2 ^ 12))]) t.gte) ∧
    (∀ r : Int, r = s.gte.zsf4.toInt * (s.gte.sz0.toNat + s.gte.sz1.toNat + s.gte.sz2.toNat
          + s.gte.sz3.toNat) →
      Runs .avsz4 s fun t => OnlyGte s t ∧ ChangesAverage s.gte t.gte ∧
        t.gte.mac0 = BitVec.ofInt 32 r ∧
        (t.gte.otz.toNat : Int) = min (max (r / 2 ^ 12) 0) 0xFFFF ∧
        FlagIs (mac0Flags r ++ [(18, Outside 0 0xFFFF (r / 2 ^ 12))]) t.gte)

/-- R454, R468, R471, R472: OP, SQR, GPF and GPL: the three lanes, the colour push of the last two,
and every flag they set. -/
def Obligations.LaneGteResults : Prop :=
  ∀ (s : State) (sf lm : Bool) (sh : Nat) (a b c k : Int), s.cop0.sr.getLsbD 30 = true →
    sh = (if sf then 12 else 0) → a = s.gte.ir1.toInt → b = s.gte.ir2.toInt →
    c = s.gte.ir3.toInt → k = s.gte.ir0.toInt →
    (Runs (.op sf lm) s fun t => OnlyGte s t ∧ ChangesLanes s.gte t.gte ∧
      LanesAre (c * s.gte.rt.m22.toInt - b * s.gte.rt.m33.toInt)
        (a * s.gte.rt.m33.toInt - c * s.gte.rt.m11.toInt)
        (b * s.gte.rt.m11.toInt - a * s.gte.rt.m22.toInt) sh lm t.gte ∧
      FlagIs (irFlags lm t.gte) t.gte) ∧
    (Runs (.sqr sf lm) s fun t => OnlyGte s t ∧ ChangesLanes s.gte t.gte ∧
      LanesAre (a * a) (b * b) (c * c) sh lm t.gte ∧ FlagIs (irFlags lm t.gte) t.gte) ∧
    (Runs (.gpf sf lm) s fun t => OnlyGte s t ∧ ChangesColours s.gte t.gte ∧
      LanesAre (a * k) (b * k) (c * k) sh lm t.gte ∧
      ColourPushed s.gte t.gte ∧ FlagIs (irFlags lm t.gte ++ colourFlags t.gte) t.gte) ∧
    (∀ x1 x2 x3 : Int, x1 = a * k + s.gte.mac1.toInt * 2 ^ sh →
      x2 = b * k + s.gte.mac2.toInt * 2 ^ sh → x3 = c * k + s.gte.mac3.toInt * 2 ^ sh →
      Runs (.gpl sf lm) s fun t => OnlyGte s t ∧ ChangesColours s.gte t.gte ∧
        LanesAre x1 x2 x3 sh lm t.gte ∧ ColourPushed s.gte t.gte ∧
        FlagIs (macFlags x1 x2 x3 ++ irFlags lm t.gte ++ colourFlags t.gte) t.gte)

/-- The value of one row of a matrix applied to a vector. -/
def rowDot (m1 m2 m3 : Int) (v : IVec) : Int := m1 * v.x + m2 * v.y + m3 * v.z

/-- The matrices `mx` selects, as the rows of R455 write them. -/
def selectsRows (mx : MatrixSel) (g : Gte) (r1 r2 r3 : IVec) : Prop :=
  match mx with
  | .rt => r1 = ⟨g.rt.m11.toInt, g.rt.m12.toInt, g.rt.m13.toInt⟩ ∧
      r2 = ⟨g.rt.m21.toInt, g.rt.m22.toInt, g.rt.m23.toInt⟩ ∧
      r3 = ⟨g.rt.m31.toInt, g.rt.m32.toInt, g.rt.m33.toInt⟩
  | .llm => r1 = ⟨g.llm.m11.toInt, g.llm.m12.toInt, g.llm.m13.toInt⟩ ∧
      r2 = ⟨g.llm.m21.toInt, g.llm.m22.toInt, g.llm.m23.toInt⟩ ∧
      r3 = ⟨g.llm.m31.toInt, g.llm.m32.toInt, g.llm.m33.toInt⟩
  | .lcm => r1 = ⟨g.lcm.m11.toInt, g.lcm.m12.toInt, g.lcm.m13.toInt⟩ ∧
      r2 = ⟨g.lcm.m21.toInt, g.lcm.m22.toInt, g.lcm.m23.toInt⟩ ∧
      r3 = ⟨g.lcm.m31.toInt, g.lcm.m32.toInt, g.lcm.m33.toInt⟩
  | .garbage => r1 = ⟨-((g.rgbc.toNat % 256 : Nat) * 16), (g.rgbc.toNat % 256 : Nat) * 16,
        g.ir0.toInt⟩ ∧
      r2 = ⟨g.rt.m13.toInt, g.rt.m13.toInt, g.rt.m13.toInt⟩ ∧
      r3 = ⟨g.rt.m22.toInt, g.rt.m22.toInt, g.rt.m22.toInt⟩

/-- The vectors `vx` selects (R455). -/
def selectsVector (vx : VectorSel) (g : Gte) (v : IVec) : Prop :=
  match vx with
  | .v0 => v = ⟨g.v0.x.toInt, g.v0.y.toInt, g.v0.z.toInt⟩
  | .v1 => v = ⟨g.v1.x.toInt, g.v1.y.toInt, g.v1.z.toInt⟩
  | .v2 => v = ⟨g.v2.x.toInt, g.v2.y.toInt, g.v2.z.toInt⟩
  | .ir => v = ⟨g.ir1.toInt, g.ir2.toInt, g.ir3.toInt⟩

/-- MVMVA: each row is the product plus the translation, its first two partial sums kept in 44 bits and
every sum that passes them flagged; with `tx` = 2 the far colour and the first column are lost from the
result, and flag their own sum and word (R404, R425, R455). -/
def Obligations.MvmvaResults : Prop :=
  ∀ (s : State) (sf lm : Bool) (mx : MatrixSel) (vx : VectorSel) (sh : Nat) (r1 r2 r3 v : IVec),
    s.cop0.sr.getLsbD 30 = true → sh = (if sf then 12 else 0) →
    selectsRows mx s.gte r1 r2 r3 → selectsVector vx s.gte v →
    (∀ (tx : TranslationSel) (w a b x : IVec),
      (tx = .tr ∧ w = ⟨s.gte.tr.x.toInt, s.gte.tr.y.toInt, s.gte.tr.z.toInt⟩ ∨
        tx = .bk ∧ w = ⟨s.gte.bk.x.toInt, s.gte.bk.y.toInt, s.gte.bk.z.toInt⟩ ∨
        tx = .none ∧ w = ⟨0, 0, 0⟩) →
      RowSums r1 r2 r3 v w a b x →
      Runs (.mvmva sf mx vx tx lm) s fun t => LanesAre x.x x.y x.z sh lm t.gte ∧
        FlagIs (sumFlags r1 r2 r3 v w a x ++ irFlags lm t.gte) t.gte) ∧
    (∀ w a : IVec, w = ⟨s.gte.fc.x.toInt, s.gte.fc.y.toInt, s.gte.fc.z.toInt⟩ →
      Wraps44 (w.x * 2 ^ 12 + r1.x * v.x) a.x → Wraps44 (w.y * 2 ^ 12 + r2.x * v.x) a.y →
      Wraps44 (w.z * 2 ^ 12 + r3.x * v.x) a.z →
      Runs (.mvmva sf mx vx .fc lm) s fun t =>
        LanesAre (rowDot 0 r1.y r1.z v) (rowDot 0 r2.y r2.z v) (rowDot 0 r3.y r3.z v) sh lm t.gte ∧
        FlagIs (firstSumFlags r1 r2 r3 v w
          ++ signedIrFlags (BitVec.ofInt 32 (a.x / 2 ^ sh)).toInt
            (BitVec.ofInt 32 (a.y / 2 ^ sh)).toInt (BitVec.ofInt 32 (a.z / 2 ^ sh)).toInt
          ++ irFlags lm t.gte) t.gte)

/-- DPCS, DCPL and INTPL interpolate their operand toward the far colour by IR0, and push the colour,
with every flag of the two passes and of the push (R426, R456, R458, R459). -/
def Obligations.InterpolationResults : Prop :=
  ∀ (s : State) (sf lm : Bool) (sh : Nat) (k f1 f2 f3 r g b m1 m2 m3 : Int) (i : Instr),
    s.cop0.sr.getLsbD 30 = true → sh = (if sf then 12 else 0) → k = s.gte.ir0.toInt →
    f1 = s.gte.fc.x.toInt → f2 = s.gte.fc.y.toInt → f3 = s.gte.fc.z.toInt →
    r = (s.gte.rgbc.extractLsb' 0 8).toNat → g = (s.gte.rgbc.extractLsb' 8 8).toNat →
    b = (s.gte.rgbc.extractLsb' 16 8).toNat →
    (i = .dpcs sf lm ∧ m1 = r * 2 ^ 16 ∧ m2 = g * 2 ^ 16 ∧ m3 = b * 2 ^ 16 ∨
      i = .dcpl sf lm ∧ m1 = r * s.gte.ir1.toInt * 16 ∧ m2 = g * s.gte.ir2.toInt * 16 ∧
        m3 = b * s.gte.ir3.toInt * 16 ∨
      i = .intpl sf lm ∧ m1 = s.gte.ir1.toInt * 2 ^ 12 ∧ m2 = s.gte.ir2.toInt * 2 ^ 12 ∧
        m3 = s.gte.ir3.toInt * 2 ^ 12) →
    Runs i s fun t => ColourPushed s.gte t.gte ∧
      LanesAre (interpolated f1 k m1 sh) (interpolated f2 k m2 sh) (interpolated f3 k m3 sh) sh lm
        t.gte ∧
      FlagIs (interpFlags f1 f2 f3 k m1 m2 m3 sh ++ irFlags lm t.gte ++ colourFlags t.gte) t.gte

/-- The same IR and MAC triplets. -/
def SameLanes (g h : Gte) : Prop := g.irVec = h.irVec ∧ g.macVec = h.macVec

/-- The same IR and MAC triplets, and the same newest colour. -/
def SameColour (g h : Gte) : Prop := SameLanes g h ∧ g.rgb2 = h.rgb2

/-- The lighting commands from their stages, flags included. `l` is after the light matrix alone, MVMVA
with `mx` = 1, `vx` = 0, `tx` = 3, and `c` after the colour matrix and background alone, MVMVA with
`mx` = 2, `vx` = 3, `tx` = 1. CC is that colour transform, then the IR triplet times RGBC; CDP is it and
then DCPL; NCS is the light matrix and then the colour transform, NCCS it and then CC, NCDS it and then
CDP; all of them push the colour (R460, R462, R464, R466, R467). -/
def Obligations.LightingStages : Prop :=
  ∀ (s l c : State) (sf lm : Bool) (sh : Nat), s.cop0.sr.getLsbD 30 = true →
    sh = (if sf then 12 else 0) →
    exec (.mvmva sf .llm .v0 .none lm) s = .next l →
    exec (.mvmva sf .lcm .ir .bk lm) s = .next c →
    (Runs (.cc sf lm) s fun t => ColourPushed s.gte t.gte ∧
      LanesAre ((s.gte.rgbc.extractLsb' 0 8).toNat * c.gte.ir1.toInt * 16)
        ((s.gte.rgbc.extractLsb' 8 8).toNat * c.gte.ir2.toInt * 16)
        ((s.gte.rgbc.extractLsb' 16 8).toNat * c.gte.ir3.toInt * 16) sh lm t.gte ∧
      FlagJoins [c.gte] (irFlags lm t.gte ++ colourFlags t.gte) t.gte) ∧
    (Runs (.cdp sf lm) s fun t => ColourPushed s.gte t.gte ∧
      Runs (.dcpl sf lm) c fun u => SameColour u.gte t.gte ∧ FlagJoins [c.gte, u.gte] [] t.gte) ∧
    (Runs (.ncs sf lm) s fun t => ColourPushed s.gte t.gte ∧
      Runs (.mvmva sf .lcm .ir .bk lm) l fun u => SameLanes u.gte t.gte ∧
        FlagJoins [l.gte, u.gte] (colourFlags t.gte) t.gte) ∧
    (Runs (.nccs sf lm) s fun t => ColourPushed s.gte t.gte ∧
      Runs (.cc sf lm) l fun u => SameColour u.gte t.gte ∧ FlagJoins [l.gte, u.gte] [] t.gte) ∧
    (Runs (.ncds sf lm) s fun t => ColourPushed s.gte t.gte ∧
      Runs (.cdp sf lm) l fun u => SameColour u.gte t.gte ∧ FlagJoins [l.gte, u.gte] [] t.gte)

/-- The word of a screen coordinate before its limiter, from the quotient, an IR and the offset (R451). -/
def screenWord (q : Int) (ir : Half) (offset : Word) : Int :=
  (BitVec.ofInt 32 ((q * ir.toInt + offset.toInt) / 2 ^ 16)).toInt

/-- RTPS: MAC1 to MAC3 are the transform, its first two partial sums kept in 44 bits, IR1 to IR3 their
limited words, `z` and the screen point are pushed, MAC0 and IR0 are the depth cue, and FLAG is exactly
what these raise, the flag of IR3 from `z`; `q` is the value of the division of H by the SZ3 just pushed,
with the parameter of assumption 8 (R404, R425, R451). -/
def Obligations.RtpsResults : Prop :=
  ∀ (s : State) (sf lm : Bool) (sh : Nat) (r1 r2 r3 v w a b x : IVec) (e z : Int),
    s.cop0.sr.getLsbD 30 = true → sh = (if sf then 12 else 0) →
    selectsRows .rt s.gte r1 r2 r3 → selectsVector .v0 s.gte v →
    w = ⟨s.gte.tr.x.toInt, s.gte.tr.y.toInt, s.gte.tr.z.toInt⟩ →
    RowSums r1 r2 r3 v w a b x → Wraps44 x.z e → z = e / 2 ^ 12 →
    Runs (.rtps sf lm) s fun t => ∃ q dq : Int,
      q = (divide config.gteDivTableSatSetsFlag s.gte.h.toNat t.gte.sz3.toNat).1 ∧
      dq = q * s.gte.dqa.toInt + s.gte.dqb.toInt ∧
      LanesAre x.x x.y x.z sh lm t.gte ∧
      t.gte.sz0 = s.gte.sz1 ∧ t.gte.sz1 = s.gte.sz2 ∧ t.gte.sz2 = s.gte.sz3 ∧
      (t.gte.sz3.toNat : Int) = min (max z 0) 0xFFFF ∧
      t.gte.sxy0 = s.gte.sxy1 ∧ t.gte.sxy1 = s.gte.sxy2 ∧
      t.gte.sxy2.sx.toInt = min (max (screenWord q t.gte.ir1 s.gte.ofx) (-0x400)) 0x3FF ∧
      t.gte.sxy2.sy.toInt = min (max (screenWord q t.gte.ir2 s.gte.ofy) (-0x400)) 0x3FF ∧
      t.gte.mac0 = BitVec.ofInt 32 dq ∧
      t.gte.ir0.toInt = min (max (BitVec.ofInt 32 (dq / 2 ^ 12)).toInt 0) 0x1000 ∧
      FlagIs (sumFlags r1 r2 r3 v w a x
        ++ [(24, Outside (if lm then 0 else -0x8000) 0x7FFF t.gte.mac1.toInt),
          (23, Outside (if lm then 0 else -0x8000) 0x7FFF t.gte.mac2.toInt),
          (22, Outside (-0x8000) 0x7FFF z), (18, Outside 0 0xFFFF z),
          (17, (divide config.gteDivTableSatSetsFlag s.gte.h.toNat t.gte.sz3.toNat).2 = true)]
        ++ screenFlags q t.gte
        ++ [(14, Outside (-0x400) 0x3FF (screenWord q t.gte.ir1 s.gte.ofx)),
          (13, Outside (-0x400) 0x3FF (screenWord q t.gte.ir2 s.gte.ofy))]
        ++ mac0Flags dq ++ [(12, Outside 0 0x1000 (BitVec.ofInt 32 (dq / 2 ^ 12)).toInt)]) t.gte

/-- After three rounds the colour FIFO holds what each pushed, the lanes are the last round's, and the
flags are those of the three together. -/
def ThreeColours (u1 u2 u3 t : Gte) : Prop :=
  t.rgb0 = u1.rgb2 ∧ t.rgb1 = u2.rgb2 ∧ SameColour u3 t ∧ FlagJoins [u1, u2, u3] [] t

/-- The three low bytes of RGBC replaced by those of `w`, CODE kept: DPCS then takes `w` for its colour,
as a round of DPCT takes the oldest entry of the FIFO (R457). -/
def withColours (w : Word) (g : Gte) : Gte :=
  { g with rgbc := (g.rgbc &&& 0xFF000000) ||| (w &&& 0x00FFFFFF) }

/-- The commands of three vertices or colours are three rounds of the command of one, on the three
operands in order: each round fills the place of the FIFO it pushes, the last leaves the lanes, and the
flags of the three join (R452, R457, R461, R463, R465). In RTPT only the last round has the depth cue, so
MAC0's flags of the first two are those of their screen coordinates alone, and flag 12 is the last's. -/
def Obligations.TripleCommands : Prop :=
  ∀ (s : State) (sf lm : Bool), s.cop0.sr.getLsbD 30 = true →
    (∀ p ∈ [(Instr.nct sf lm, Instr.ncs sf lm), (.ncct sf lm, .nccs sf lm),
        (.ncdt sf lm, .ncds sf lm)],
      Runs p.1 s fun t => Runs p.2 s fun u1 =>
        Runs p.2 { s with gte := { s.gte with v0 := s.gte.v1 } } fun u2 =>
        Runs p.2 { s with gte := { s.gte with v0 := s.gte.v2 } } fun u3 =>
          ThreeColours u1.gte u2.gte u3.gte t.gte) ∧
    (Runs (.dpct sf lm) s fun t =>
      Runs (.dpcs sf lm) { s with gte := withColours s.gte.rgb0 s.gte } fun u1 =>
      Runs (.dpcs sf lm) { s with gte := withColours s.gte.rgb1 s.gte } fun u2 =>
      Runs (.dpcs sf lm) { s with gte := withColours s.gte.rgb2 s.gte } fun u3 =>
        ThreeColours u1.gte u2.gte u3.gte t.gte) ∧
    (Runs (.rtpt sf lm) s fun t => Runs (.rtps sf lm) s fun u1 =>
      Runs (.rtps sf lm) { s with gte := { s.gte with v0 := s.gte.v1 } } fun u2 =>
      Runs (.rtps sf lm) { s with gte := { s.gte with v0 := s.gte.v2 } } fun u3 =>
        t.gte.sz0 = s.gte.sz3 ∧ t.gte.sz1 = u1.gte.sz3 ∧ t.gte.sz2 = u2.gte.sz3 ∧
        t.gte.sz3 = u3.gte.sz3 ∧ t.gte.sxy0 = u1.gte.sxy2 ∧ t.gte.sxy1 = u2.gte.sxy2 ∧
        t.gte.sxy2 = u3.gte.sxy2 ∧ t.gte.ir0 = u3.gte.ir0 ∧ t.gte.mac0 = u3.gte.mac0 ∧
        SameLanes u3.gte t.gte ∧
        (∀ k, k ∉ [12, 15, 16] → (t.gte.flag.getLsbD k = true ↔
          ∃ u ∈ [u1, u2, u3], u.gte.flag.getLsbD k = true)) ∧
        t.gte.flag.getLsbD 12 = u3.gte.flag.getLsbD 12 ∧
        ∀ k ∈ [15, 16], (t.gte.flag.getLsbD k = true ↔ u3.gte.flag.getLsbD k = true ∨
          ∃ u ∈ [u1, u2], ∃ c, (k, c) ∈ screenFlags (divide config.gteDivTableSatSetsFlag
            s.gte.h.toNat u.gte.sz3.toNat).1 u.gte ∧ c))

/-- The divider: the short cut saturates and sets the flag; the table path gives the value of R420 from
the entry of R421, computed without any truncated subtraction, limited to 0x1FFFF; the table is indexed
inside its 257 entries; and the flag of the table path is the model's parameter (R420, R421; decision
D26, assumption 8). -/
def Obligations.DividerBounds : Prop :=
  ∀ (p : Bool) (n d : Nat), n < 2 ^ 16 → d < 2 ^ 16 →
    (2 * d ≤ n → divide p n d = (0x1FFFF, true)) ∧
    (divide p n d).1 ≤ 0x1FFFF ∧
    (n < 2 * d → d * 2 ^ leadingZeros 16 d < 2 ^ 16 ∧ 2 ^ 15 ≤ d * 2 ^ leadingZeros 16 d ∧
      (d * 2 ^ leadingZeros 16 d - 0x7FC0) / 2 ^ 7 ≤ 256 ∧
      ((divide p n d).2 = true ↔ p = true ∧ 0x1FFFF < divideTable n d)) ∧
    (∀ k ≤ 256, unr k ≤ 0xFF) ∧
    (∀ (z : Nat) (d1 i u t r : Int), n < 2 * d → d1 = d * 2 ^ z → 2 ^ 15 ≤ d1 → d1 < 2 ^ 16 →
      i = (d1 - 0x7FC0) / 2 ^ 7 →
      u = max 0 ((0x40000 / (i + 0x100) + 1) / 2 - 0x101) + 0x101 →
      t = (0x2000080 - d1 * u) / 2 ^ 8 → r = (0x80 + t * u) / 2 ^ 8 →
      ((divide p n d).1 : Int) = min ((n * 2 ^ z * r + 0x8000) / 2 ^ 16) 0x1FFFF)
end

