-- ==== Sys2Proof/Laws/Decode.lean ====
section
/-! SUPPORT. The fields of an encoded word, one lemma for each format and field. -/

namespace Sys2Proof

@[simp] theorem opcodeOf_rWord (rs rt rd sa : BitVec 5) (functor : BitVec 6) :
    opcodeOf (rWord rs rt rd sa functor) = 0 := by
  ext i hi
  simp [opcodeOf, rWord, place]
  interval_cases i <;> simp

@[simp] theorem rsOf_rWord (rs rt rd sa : BitVec 5) (functor : BitVec 6) :
    rsOf (rWord rs rt rd sa functor) = rs := by
  ext i hi
  simp [rsOf, rWord, place]
  interval_cases i <;> simp

@[simp] theorem rtOf_rWord (rs rt rd sa : BitVec 5) (functor : BitVec 6) :
    rtOf (rWord rs rt rd sa functor) = rt := by
  ext i hi
  simp [rtOf, rWord, place]
  interval_cases i <;> simp

@[simp] theorem rdOf_rWord (rs rt rd sa : BitVec 5) (functor : BitVec 6) :
    rdOf (rWord rs rt rd sa functor) = rd := by
  ext i hi
  simp [rdOf, rWord, place]
  interval_cases i <;> simp

@[simp] theorem saOf_rWord (rs rt rd sa : BitVec 5) (functor : BitVec 6) :
    saOf (rWord rs rt rd sa functor) = sa := by
  ext i hi
  simp [saOf, rWord, place]
  interval_cases i <;> simp

@[simp] theorem functorOf_rWord (rs rt rd sa : BitVec 5) (functor : BitVec 6) :
    functorOf (rWord rs rt rd sa functor) = functor := by
  ext i hi
  simp [functorOf, rWord, place]
  interval_cases i <;> simp

@[simp] theorem opcodeOf_iWord (opcode : BitVec 6) (rs rt : BitVec 5) (imm : BitVec 16) :
    opcodeOf (iWord opcode rs rt imm) = opcode := by
  ext i hi
  simp [opcodeOf, iWord, place]
  interval_cases i <;> simp

@[simp] theorem rsOf_iWord (opcode : BitVec 6) (rs rt : BitVec 5) (imm : BitVec 16) :
    rsOf (iWord opcode rs rt imm) = rs := by
  ext i hi
  simp [rsOf, iWord, place]
  interval_cases i <;> simp

@[simp] theorem rtOf_iWord (opcode : BitVec 6) (rs rt : BitVec 5) (imm : BitVec 16) :
    rtOf (iWord opcode rs rt imm) = rt := by
  ext i hi
  simp [rtOf, iWord, place]
  interval_cases i <;> simp

@[simp] theorem immOf_iWord (opcode : BitVec 6) (rs rt : BitVec 5) (imm : BitVec 16) :
    immOf (iWord opcode rs rt imm) = imm := by
  ext i hi
  simp [immOf, iWord, place]
  interval_cases i <;> simp

@[simp] theorem opcodeOf_jWord (opcode : BitVec 6) (target : BitVec 26) :
    opcodeOf (jWord opcode target) = opcode := by
  ext i hi
  simp [opcodeOf, jWord, place]
  interval_cases i <;> simp

@[simp] theorem targetOf_jWord (opcode : BitVec 6) (target : BitVec 26) :
    targetOf (jWord opcode target) = target := by
  ext i hi
  simp [targetOf, jWord, place]
  interval_cases i <;> simp

@[simp] theorem opcodeOf_crWord (opcode : BitVec 6) (sub rt rd : BitVec 5) :
    opcodeOf (crWord opcode sub rt rd) = opcode := by
  ext i hi
  simp [opcodeOf, crWord, place]
  interval_cases i <;> simp

@[simp] theorem rsOf_crWord (opcode : BitVec 6) (sub rt rd : BitVec 5) :
    rsOf (crWord opcode sub rt rd) = sub := by
  ext i hi
  simp [rsOf, crWord, place]
  interval_cases i <;> simp

@[simp] theorem rtOf_crWord (opcode : BitVec 6) (sub rt rd : BitVec 5) :
    rtOf (crWord opcode sub rt rd) = rt := by
  ext i hi
  simp [rtOf, crWord, place]
  interval_cases i <;> simp

@[simp] theorem rdOf_crWord (opcode : BitVec 6) (sub rt rd : BitVec 5) :
    rdOf (crWord opcode sub rt rd) = rd := by
  ext i hi
  simp [rdOf, crWord, place]
  interval_cases i <;> simp

@[simp] theorem functorOf_crWord (opcode : BitVec 6) (sub rt rd : BitVec 5) :
    functorOf (crWord opcode sub rt rd) = 0 := by
  ext i hi
  simp [functorOf, crWord, place]
  interval_cases i <;> simp

@[simp] theorem isCoprocessorOp_crWord (opcode : BitVec 6) (sub rt rd : BitVec 5) :
    isCoprocessorOp (crWord opcode sub rt rd) = sub.getLsbD 4 := by
  simp [isCoprocessorOp, crWord, place]

@[simp] theorem opcodeOf_cop0Word (rs : BitVec 5) (functor : BitVec 6) :
    opcodeOf (cop0Word rs functor) = 0x10 := by
  ext i hi
  simp [opcodeOf, cop0Word, place]
  interval_cases i <;> simp

@[simp] theorem rsOf_cop0Word (rs : BitVec 5) (functor : BitVec 6) :
    rsOf (cop0Word rs functor) = rs := by
  ext i hi
  simp [rsOf, cop0Word, place]
  interval_cases i <;> simp

@[simp] theorem functorOf_cop0Word (rs : BitVec 5) (functor : BitVec 6) :
    functorOf (cop0Word rs functor) = functor := by
  ext i hi
  simp [functorOf, cop0Word, place]
  interval_cases i <;> simp

@[simp] theorem isCoprocessorOp_cop0Word (rs : BitVec 5) (functor : BitVec 6) :
    isCoprocessorOp (cop0Word rs functor) = rs.getLsbD 4 := by
  simp [isCoprocessorOp, cop0Word, place]

@[simp] theorem opcodeOf_gteWord (sf lm : Bool) (mx vx tx : BitVec 2) (command : BitVec 6) :
    opcodeOf (gteWord sf mx vx tx lm command) = 0x12 := by
  ext i hi
  simp [opcodeOf, gteWord, place]
  interval_cases i <;> simp

@[simp] theorem isCoprocessorOp_gteWord (sf lm : Bool) (mx vx tx : BitVec 2) (command : BitVec 6) :
    isCoprocessorOp (gteWord sf mx vx tx lm command) = true := by
  simp [isCoprocessorOp, gteWord, place]

@[simp] theorem sfOf_gteWord (sf lm : Bool) (mx vx tx : BitVec 2) (command : BitVec 6) :
    sfOf (gteWord sf mx vx tx lm command) = sf := by
  cases sf <;> simp [sfOf, gteWord, place]

@[simp] theorem mxOf_gteWord (sf lm : Bool) (mx vx tx : BitVec 2) (command : BitVec 6) :
    mxOf (gteWord sf mx vx tx lm command) = mx := by
  ext i hi
  simp [mxOf, gteWord, place]
  interval_cases i <;> simp

@[simp] theorem vxOf_gteWord (sf lm : Bool) (mx vx tx : BitVec 2) (command : BitVec 6) :
    vxOf (gteWord sf mx vx tx lm command) = vx := by
  ext i hi
  simp [vxOf, gteWord, place]
  interval_cases i <;> simp

@[simp] theorem txOf_gteWord (sf lm : Bool) (mx vx tx : BitVec 2) (command : BitVec 6) :
    txOf (gteWord sf mx vx tx lm command) = tx := by
  ext i hi
  simp [txOf, gteWord, place]
  interval_cases i <;> simp

@[simp] theorem lmOf_gteWord (sf lm : Bool) (mx vx tx : BitVec 2) (command : BitVec 6) :
    lmOf (gteWord sf mx vx tx lm command) = lm := by
  cases lm <;> simp [lmOf, gteWord, place]

@[simp] theorem functorOf_gteWord (sf lm : Bool) (mx vx tx : BitVec 2) (command : BitVec 6) :
    functorOf (gteWord sf mx vx tx lm command) = command := by
  ext i hi
  simp [functorOf, gteWord, place]
  interval_cases i <;> simp

end Sys2Proof
end

