-- ==== Sys2Proof/Laws/State.lean ====
section
/-! SUPPORT. What each update of State leaves in each field, by definition: one lemma for each field
and update, so that no proof unfolds a record update. -/

namespace Sys2Proof.Machine

/-! `noteBus` -/

@[simp] theorem State.noteBus_regs (s : State) (c : BusCall) : (s.noteBus c).regs = s.regs := rfl
@[simp] theorem State.noteBus_hi (s : State) (c : BusCall) : (s.noteBus c).hi = s.hi := rfl
@[simp] theorem State.noteBus_lo (s : State) (c : BusCall) : (s.noteBus c).lo = s.lo := rfl
@[simp] theorem State.noteBus_pc (s : State) (c : BusCall) : (s.noteBus c).pc = s.pc := rfl
@[simp] theorem State.noteBus_ldCur (s : State) (c : BusCall) : (s.noteBus c).ldCur = s.ldCur := rfl
@[simp] theorem State.noteBus_ldNext (s : State) (c : BusCall) :
    (s.noteBus c).ldNext = s.ldNext := rfl
@[simp] theorem State.noteBus_bdPending (s : State) (c : BusCall) :
    (s.noteBus c).bdPending = s.bdPending := rfl
@[simp] theorem State.noteBus_bdTarget (s : State) (c : BusCall) :
    (s.noteBus c).bdTarget = s.bdTarget := rfl
@[simp] theorem State.noteBus_cycles (s : State) (c : BusCall) :
    (s.noteBus c).cycles = s.cycles := rfl
@[simp] theorem State.noteBus_fatal (s : State) (c : BusCall) : (s.noteBus c).fatal = s.fatal := rfl
@[simp] theorem State.noteBus_srWritten (s : State) (c : BusCall) :
    (s.noteBus c).srWritten = s.srWritten := rfl
@[simp] theorem State.noteBus_trapped (s : State) (c : BusCall) :
    (s.noteBus c).trapped = s.trapped := rfl
@[simp] theorem State.noteBus_cop0 (s : State) (c : BusCall) : (s.noteBus c).cop0 = s.cop0 := rfl
@[simp] theorem State.noteBus_gte (s : State) (c : BusCall) : (s.noteBus c).gte = s.gte := rfl
@[simp] theorem State.noteBus_mem (s : State) (c : BusCall) : (s.noteBus c).mem = s.mem := rfl
@[simp] theorem State.noteBus_irqLevels (s : State) (c : BusCall) :
    (s.noteBus c).irqLevels = s.irqLevels := rfl
@[simp] theorem State.noteBus_busCalls (s : State) (c : BusCall) :
    (s.noteBus c).busCalls = s.busCalls ++ [c] := rfl

/-! `busWriteByte` -/

@[simp] theorem State.busWriteByte_regs (s : State) (a : Word) (v : Byte) :
    (s.busWriteByte a v).regs = s.regs := rfl
@[simp] theorem State.busWriteByte_hi (s : State) (a : Word) (v : Byte) :
    (s.busWriteByte a v).hi = s.hi := rfl
@[simp] theorem State.busWriteByte_lo (s : State) (a : Word) (v : Byte) :
    (s.busWriteByte a v).lo = s.lo := rfl
@[simp] theorem State.busWriteByte_pc (s : State) (a : Word) (v : Byte) :
    (s.busWriteByte a v).pc = s.pc := rfl
@[simp] theorem State.busWriteByte_ldCur (s : State) (a : Word) (v : Byte) :
    (s.busWriteByte a v).ldCur = s.ldCur := rfl
@[simp] theorem State.busWriteByte_ldNext (s : State) (a : Word) (v : Byte) :
    (s.busWriteByte a v).ldNext = s.ldNext := rfl
@[simp] theorem State.busWriteByte_bdPending (s : State) (a : Word) (v : Byte) :
    (s.busWriteByte a v).bdPending = s.bdPending := rfl
@[simp] theorem State.busWriteByte_bdTarget (s : State) (a : Word) (v : Byte) :
    (s.busWriteByte a v).bdTarget = s.bdTarget := rfl
@[simp] theorem State.busWriteByte_cycles (s : State) (a : Word) (v : Byte) :
    (s.busWriteByte a v).cycles = s.cycles := rfl
@[simp] theorem State.busWriteByte_fatal (s : State) (a : Word) (v : Byte) :
    (s.busWriteByte a v).fatal = s.fatal := rfl
@[simp] theorem State.busWriteByte_srWritten (s : State) (a : Word) (v : Byte) :
    (s.busWriteByte a v).srWritten = s.srWritten := rfl
@[simp] theorem State.busWriteByte_trapped (s : State) (a : Word) (v : Byte) :
    (s.busWriteByte a v).trapped = s.trapped := rfl
@[simp] theorem State.busWriteByte_cop0 (s : State) (a : Word) (v : Byte) :
    (s.busWriteByte a v).cop0 = s.cop0 := rfl
@[simp] theorem State.busWriteByte_gte (s : State) (a : Word) (v : Byte) :
    (s.busWriteByte a v).gte = s.gte := rfl
@[simp] theorem State.busWriteByte_mem (s : State) (a : Word) (v : Byte) :
    (s.busWriteByte a v).mem = s.mem.writeByte a v := rfl
@[simp] theorem State.busWriteByte_irqLevels (s : State) (a : Word) (v : Byte) :
    (s.busWriteByte a v).irqLevels = s.irqLevels := rfl
@[simp] theorem State.busWriteByte_busCalls (s : State) (a : Word) (v : Byte) :
    (s.busWriteByte a v).busCalls = s.busCalls ++ [.writeByte a v] := rfl

/-! `busWriteHalf` -/

@[simp] theorem State.busWriteHalf_regs (s : State) (a : Word) (v : Half) :
    (s.busWriteHalf a v).regs = s.regs := rfl
@[simp] theorem State.busWriteHalf_hi (s : State) (a : Word) (v : Half) :
    (s.busWriteHalf a v).hi = s.hi := rfl
@[simp] theorem State.busWriteHalf_lo (s : State) (a : Word) (v : Half) :
    (s.busWriteHalf a v).lo = s.lo := rfl
@[simp] theorem State.busWriteHalf_pc (s : State) (a : Word) (v : Half) :
    (s.busWriteHalf a v).pc = s.pc := rfl
@[simp] theorem State.busWriteHalf_ldCur (s : State) (a : Word) (v : Half) :
    (s.busWriteHalf a v).ldCur = s.ldCur := rfl
@[simp] theorem State.busWriteHalf_ldNext (s : State) (a : Word) (v : Half) :
    (s.busWriteHalf a v).ldNext = s.ldNext := rfl
@[simp] theorem State.busWriteHalf_bdPending (s : State) (a : Word) (v : Half) :
    (s.busWriteHalf a v).bdPending = s.bdPending := rfl
@[simp] theorem State.busWriteHalf_bdTarget (s : State) (a : Word) (v : Half) :
    (s.busWriteHalf a v).bdTarget = s.bdTarget := rfl
@[simp] theorem State.busWriteHalf_cycles (s : State) (a : Word) (v : Half) :
    (s.busWriteHalf a v).cycles = s.cycles := rfl
@[simp] theorem State.busWriteHalf_fatal (s : State) (a : Word) (v : Half) :
    (s.busWriteHalf a v).fatal = s.fatal := rfl
@[simp] theorem State.busWriteHalf_srWritten (s : State) (a : Word) (v : Half) :
    (s.busWriteHalf a v).srWritten = s.srWritten := rfl
@[simp] theorem State.busWriteHalf_trapped (s : State) (a : Word) (v : Half) :
    (s.busWriteHalf a v).trapped = s.trapped := rfl
@[simp] theorem State.busWriteHalf_cop0 (s : State) (a : Word) (v : Half) :
    (s.busWriteHalf a v).cop0 = s.cop0 := rfl
@[simp] theorem State.busWriteHalf_gte (s : State) (a : Word) (v : Half) :
    (s.busWriteHalf a v).gte = s.gte := rfl
@[simp] theorem State.busWriteHalf_mem (s : State) (a : Word) (v : Half) :
    (s.busWriteHalf a v).mem = s.mem.writeHalf a v := rfl
@[simp] theorem State.busWriteHalf_irqLevels (s : State) (a : Word) (v : Half) :
    (s.busWriteHalf a v).irqLevels = s.irqLevels := rfl
@[simp] theorem State.busWriteHalf_busCalls (s : State) (a : Word) (v : Half) :
    (s.busWriteHalf a v).busCalls = s.busCalls ++ [.writeHalf a v] := rfl

/-! `busWriteWord` -/

@[simp] theorem State.busWriteWord_regs (s : State) (a v : Word) :
    (s.busWriteWord a v).regs = s.regs := rfl
@[simp] theorem State.busWriteWord_hi (s : State) (a v : Word) :
    (s.busWriteWord a v).hi = s.hi := rfl
@[simp] theorem State.busWriteWord_lo (s : State) (a v : Word) :
    (s.busWriteWord a v).lo = s.lo := rfl
@[simp] theorem State.busWriteWord_pc (s : State) (a v : Word) :
    (s.busWriteWord a v).pc = s.pc := rfl
@[simp] theorem State.busWriteWord_ldCur (s : State) (a v : Word) :
    (s.busWriteWord a v).ldCur = s.ldCur := rfl
@[simp] theorem State.busWriteWord_ldNext (s : State) (a v : Word) :
    (s.busWriteWord a v).ldNext = s.ldNext := rfl
@[simp] theorem State.busWriteWord_bdPending (s : State) (a v : Word) :
    (s.busWriteWord a v).bdPending = s.bdPending := rfl
@[simp] theorem State.busWriteWord_bdTarget (s : State) (a v : Word) :
    (s.busWriteWord a v).bdTarget = s.bdTarget := rfl
@[simp] theorem State.busWriteWord_cycles (s : State) (a v : Word) :
    (s.busWriteWord a v).cycles = s.cycles := rfl
@[simp] theorem State.busWriteWord_fatal (s : State) (a v : Word) :
    (s.busWriteWord a v).fatal = s.fatal := rfl
@[simp] theorem State.busWriteWord_srWritten (s : State) (a v : Word) :
    (s.busWriteWord a v).srWritten = s.srWritten := rfl
@[simp] theorem State.busWriteWord_trapped (s : State) (a v : Word) :
    (s.busWriteWord a v).trapped = s.trapped := rfl
@[simp] theorem State.busWriteWord_cop0 (s : State) (a v : Word) :
    (s.busWriteWord a v).cop0 = s.cop0 := rfl
@[simp] theorem State.busWriteWord_gte (s : State) (a v : Word) :
    (s.busWriteWord a v).gte = s.gte := rfl
@[simp] theorem State.busWriteWord_mem (s : State) (a v : Word) :
    (s.busWriteWord a v).mem = s.mem.writeWord a v := rfl
@[simp] theorem State.busWriteWord_irqLevels (s : State) (a v : Word) :
    (s.busWriteWord a v).irqLevels = s.irqLevels := rfl
@[simp] theorem State.busWriteWord_busCalls (s : State) (a v : Word) :
    (s.busWriteWord a v).busCalls = s.busCalls ++ [.writeWord a v] := rfl

/-! `rawWrite` -/

@[simp] theorem State.rawWrite_regs (s : State) (r : RegIdx) (v : Word) :
    (s.rawWrite r v).regs = putReg s.regs r v := rfl
@[simp] theorem State.rawWrite_hi (s : State) (r : RegIdx) (v : Word) :
    (s.rawWrite r v).hi = s.hi := rfl
@[simp] theorem State.rawWrite_lo (s : State) (r : RegIdx) (v : Word) :
    (s.rawWrite r v).lo = s.lo := rfl
@[simp] theorem State.rawWrite_pc (s : State) (r : RegIdx) (v : Word) :
    (s.rawWrite r v).pc = s.pc := rfl
@[simp] theorem State.rawWrite_ldCur (s : State) (r : RegIdx) (v : Word) :
    (s.rawWrite r v).ldCur = s.ldCur := rfl
@[simp] theorem State.rawWrite_ldNext (s : State) (r : RegIdx) (v : Word) :
    (s.rawWrite r v).ldNext = s.ldNext := rfl
@[simp] theorem State.rawWrite_bdPending (s : State) (r : RegIdx) (v : Word) :
    (s.rawWrite r v).bdPending = s.bdPending := rfl
@[simp] theorem State.rawWrite_bdTarget (s : State) (r : RegIdx) (v : Word) :
    (s.rawWrite r v).bdTarget = s.bdTarget := rfl
@[simp] theorem State.rawWrite_cycles (s : State) (r : RegIdx) (v : Word) :
    (s.rawWrite r v).cycles = s.cycles := rfl
@[simp] theorem State.rawWrite_fatal (s : State) (r : RegIdx) (v : Word) :
    (s.rawWrite r v).fatal = s.fatal := rfl
@[simp] theorem State.rawWrite_srWritten (s : State) (r : RegIdx) (v : Word) :
    (s.rawWrite r v).srWritten = s.srWritten := rfl
@[simp] theorem State.rawWrite_trapped (s : State) (r : RegIdx) (v : Word) :
    (s.rawWrite r v).trapped = s.trapped := rfl
@[simp] theorem State.rawWrite_cop0 (s : State) (r : RegIdx) (v : Word) :
    (s.rawWrite r v).cop0 = s.cop0 := rfl
@[simp] theorem State.rawWrite_gte (s : State) (r : RegIdx) (v : Word) :
    (s.rawWrite r v).gte = s.gte := rfl
@[simp] theorem State.rawWrite_mem (s : State) (r : RegIdx) (v : Word) :
    (s.rawWrite r v).mem = s.mem := rfl
@[simp] theorem State.rawWrite_irqLevels (s : State) (r : RegIdx) (v : Word) :
    (s.rawWrite r v).irqLevels = s.irqLevels := rfl
@[simp] theorem State.rawWrite_busCalls (s : State) (r : RegIdx) (v : Word) :
    (s.rawWrite r v).busCalls = s.busCalls := rfl

/-! `writeReg` -/

@[simp] theorem State.writeReg_regs (s : State) (r : RegIdx) (v : Word) :
    (s.writeReg r v).regs = putReg s.regs r v := rfl
@[simp] theorem State.writeReg_hi (s : State) (r : RegIdx) (v : Word) :
    (s.writeReg r v).hi = s.hi := rfl
@[simp] theorem State.writeReg_lo (s : State) (r : RegIdx) (v : Word) :
    (s.writeReg r v).lo = s.lo := rfl
@[simp] theorem State.writeReg_pc (s : State) (r : RegIdx) (v : Word) :
    (s.writeReg r v).pc = s.pc := rfl
@[simp] theorem State.writeReg_ldCur (s : State) (r : RegIdx) (v : Word) :
    (s.writeReg r v).ldCur = dropLoad r s.ldCur := rfl
@[simp] theorem State.writeReg_ldNext (s : State) (r : RegIdx) (v : Word) :
    (s.writeReg r v).ldNext = s.ldNext := rfl
@[simp] theorem State.writeReg_bdPending (s : State) (r : RegIdx) (v : Word) :
    (s.writeReg r v).bdPending = s.bdPending := rfl
@[simp] theorem State.writeReg_bdTarget (s : State) (r : RegIdx) (v : Word) :
    (s.writeReg r v).bdTarget = s.bdTarget := rfl
@[simp] theorem State.writeReg_cycles (s : State) (r : RegIdx) (v : Word) :
    (s.writeReg r v).cycles = s.cycles := rfl
@[simp] theorem State.writeReg_fatal (s : State) (r : RegIdx) (v : Word) :
    (s.writeReg r v).fatal = s.fatal := rfl
@[simp] theorem State.writeReg_srWritten (s : State) (r : RegIdx) (v : Word) :
    (s.writeReg r v).srWritten = s.srWritten := rfl
@[simp] theorem State.writeReg_trapped (s : State) (r : RegIdx) (v : Word) :
    (s.writeReg r v).trapped = s.trapped := rfl
@[simp] theorem State.writeReg_cop0 (s : State) (r : RegIdx) (v : Word) :
    (s.writeReg r v).cop0 = s.cop0 := rfl
@[simp] theorem State.writeReg_gte (s : State) (r : RegIdx) (v : Word) :
    (s.writeReg r v).gte = s.gte := rfl
@[simp] theorem State.writeReg_mem (s : State) (r : RegIdx) (v : Word) :
    (s.writeReg r v).mem = s.mem := rfl
@[simp] theorem State.writeReg_irqLevels (s : State) (r : RegIdx) (v : Word) :
    (s.writeReg r v).irqLevels = s.irqLevels := rfl
@[simp] theorem State.writeReg_busCalls (s : State) (r : RegIdx) (v : Word) :
    (s.writeReg r v).busCalls = s.busCalls := rfl

/-! `delayedWrite` -/

@[simp] theorem State.delayedWrite_regs (s : State) (r : RegIdx) (v : Word) :
    (s.delayedWrite r v).regs = s.regs := rfl
@[simp] theorem State.delayedWrite_hi (s : State) (r : RegIdx) (v : Word) :
    (s.delayedWrite r v).hi = s.hi := rfl
@[simp] theorem State.delayedWrite_lo (s : State) (r : RegIdx) (v : Word) :
    (s.delayedWrite r v).lo = s.lo := rfl
@[simp] theorem State.delayedWrite_pc (s : State) (r : RegIdx) (v : Word) :
    (s.delayedWrite r v).pc = s.pc := rfl
@[simp] theorem State.delayedWrite_ldCur (s : State) (r : RegIdx) (v : Word) :
    (s.delayedWrite r v).ldCur = dropLoad r s.ldCur := rfl
@[simp] theorem State.delayedWrite_ldNext (s : State) (r : RegIdx) (v : Word) :
    (s.delayedWrite r v).ldNext = some ⟨r, v⟩ := rfl
@[simp] theorem State.delayedWrite_bdPending (s : State) (r : RegIdx) (v : Word) :
    (s.delayedWrite r v).bdPending = s.bdPending := rfl
@[simp] theorem State.delayedWrite_bdTarget (s : State) (r : RegIdx) (v : Word) :
    (s.delayedWrite r v).bdTarget = s.bdTarget := rfl
@[simp] theorem State.delayedWrite_cycles (s : State) (r : RegIdx) (v : Word) :
    (s.delayedWrite r v).cycles = s.cycles := rfl
@[simp] theorem State.delayedWrite_fatal (s : State) (r : RegIdx) (v : Word) :
    (s.delayedWrite r v).fatal = s.fatal := rfl
@[simp] theorem State.delayedWrite_srWritten (s : State) (r : RegIdx) (v : Word) :
    (s.delayedWrite r v).srWritten = s.srWritten := rfl
@[simp] theorem State.delayedWrite_trapped (s : State) (r : RegIdx) (v : Word) :
    (s.delayedWrite r v).trapped = s.trapped := rfl
@[simp] theorem State.delayedWrite_cop0 (s : State) (r : RegIdx) (v : Word) :
    (s.delayedWrite r v).cop0 = s.cop0 := rfl
@[simp] theorem State.delayedWrite_gte (s : State) (r : RegIdx) (v : Word) :
    (s.delayedWrite r v).gte = s.gte := rfl
@[simp] theorem State.delayedWrite_mem (s : State) (r : RegIdx) (v : Word) :
    (s.delayedWrite r v).mem = s.mem := rfl
@[simp] theorem State.delayedWrite_irqLevels (s : State) (r : RegIdx) (v : Word) :
    (s.delayedWrite r v).irqLevels = s.irqLevels := rfl
@[simp] theorem State.delayedWrite_busCalls (s : State) (r : RegIdx) (v : Word) :
    (s.delayedWrite r v).busCalls = s.busCalls := rfl

/-! `advance` -/

@[simp] theorem State.advance_regs (s : State) : (s.advance).regs = s.regs := rfl
@[simp] theorem State.advance_hi (s : State) : (s.advance).hi = s.hi := rfl
@[simp] theorem State.advance_lo (s : State) : (s.advance).lo = s.lo := rfl
@[simp] theorem State.advance_pc (s : State) : (s.advance).pc = s.pc + 4 := rfl
@[simp] theorem State.advance_ldCur (s : State) : (s.advance).ldCur = s.ldCur := rfl
@[simp] theorem State.advance_ldNext (s : State) : (s.advance).ldNext = s.ldNext := rfl
@[simp] theorem State.advance_bdPending (s : State) : (s.advance).bdPending = s.bdPending := rfl
@[simp] theorem State.advance_bdTarget (s : State) : (s.advance).bdTarget = s.bdTarget := rfl
@[simp] theorem State.advance_cycles (s : State) : (s.advance).cycles = s.cycles := rfl
@[simp] theorem State.advance_fatal (s : State) : (s.advance).fatal = s.fatal := rfl
@[simp] theorem State.advance_srWritten (s : State) : (s.advance).srWritten = s.srWritten := rfl
@[simp] theorem State.advance_trapped (s : State) : (s.advance).trapped = s.trapped := rfl
@[simp] theorem State.advance_cop0 (s : State) : (s.advance).cop0 = s.cop0 := rfl
@[simp] theorem State.advance_gte (s : State) : (s.advance).gte = s.gte := rfl
@[simp] theorem State.advance_mem (s : State) : (s.advance).mem = s.mem := rfl
@[simp] theorem State.advance_irqLevels (s : State) : (s.advance).irqLevels = s.irqLevels := rfl
@[simp] theorem State.advance_busCalls (s : State) : (s.advance).busCalls = s.busCalls := rfl

/-! `setJump` -/

@[simp] theorem State.setJump_regs (s : State) (a : Word) : (s.setJump a).regs = s.regs := rfl
@[simp] theorem State.setJump_hi (s : State) (a : Word) : (s.setJump a).hi = s.hi := rfl
@[simp] theorem State.setJump_lo (s : State) (a : Word) : (s.setJump a).lo = s.lo := rfl
@[simp] theorem State.setJump_pc (s : State) (a : Word) : (s.setJump a).pc = s.pc := rfl
@[simp] theorem State.setJump_ldCur (s : State) (a : Word) : (s.setJump a).ldCur = s.ldCur := rfl
@[simp] theorem State.setJump_ldNext (s : State) (a : Word) : (s.setJump a).ldNext = s.ldNext := rfl
@[simp] theorem State.setJump_bdPending (s : State) (a : Word) :
    (s.setJump a).bdPending = true := rfl
@[simp] theorem State.setJump_bdTarget (s : State) (a : Word) : (s.setJump a).bdTarget = a := rfl
@[simp] theorem State.setJump_cycles (s : State) (a : Word) : (s.setJump a).cycles = s.cycles := rfl
@[simp] theorem State.setJump_fatal (s : State) (a : Word) : (s.setJump a).fatal = s.fatal := rfl
@[simp] theorem State.setJump_srWritten (s : State) (a : Word) :
    (s.setJump a).srWritten = s.srWritten := rfl
@[simp] theorem State.setJump_trapped (s : State) (a : Word) :
    (s.setJump a).trapped = s.trapped := rfl
@[simp] theorem State.setJump_cop0 (s : State) (a : Word) : (s.setJump a).cop0 = s.cop0 := rfl
@[simp] theorem State.setJump_gte (s : State) (a : Word) : (s.setJump a).gte = s.gte := rfl
@[simp] theorem State.setJump_mem (s : State) (a : Word) : (s.setJump a).mem = s.mem := rfl
@[simp] theorem State.setJump_irqLevels (s : State) (a : Word) :
    (s.setJump a).irqLevels = s.irqLevels := rfl
@[simp] theorem State.setJump_busCalls (s : State) (a : Word) :
    (s.setJump a).busCalls = s.busCalls := rfl

/-! `takeTrap` -/

@[simp] theorem State.takeTrap_regs (s : State) (e : Exception) :
    (s.takeTrap e).regs = s.regs := rfl
@[simp] theorem State.takeTrap_hi (s : State) (e : Exception) : (s.takeTrap e).hi = s.hi := rfl
@[simp] theorem State.takeTrap_lo (s : State) (e : Exception) : (s.takeTrap e).lo = s.lo := rfl
@[simp] theorem State.takeTrap_pc (s : State) (e : Exception) :
    (s.takeTrap e).pc = exceptionVector s.cop0.sr := rfl
@[simp] theorem State.takeTrap_ldCur (s : State) (e : Exception) :
    (s.takeTrap e).ldCur = s.ldCur := rfl
@[simp] theorem State.takeTrap_ldNext (s : State) (e : Exception) :
    (s.takeTrap e).ldNext = s.ldNext := rfl
@[simp] theorem State.takeTrap_bdPending (s : State) (e : Exception) :
    (s.takeTrap e).bdPending = false := rfl
@[simp] theorem State.takeTrap_bdTarget (s : State) (e : Exception) :
    (s.takeTrap e).bdTarget = s.bdTarget := rfl
@[simp] theorem State.takeTrap_cycles (s : State) (e : Exception) :
    (s.takeTrap e).cycles = s.cycles := rfl
@[simp] theorem State.takeTrap_fatal (s : State) (e : Exception) :
    (s.takeTrap e).fatal = s.fatal := rfl
@[simp] theorem State.takeTrap_srWritten (s : State) (e : Exception) :
    (s.takeTrap e).srWritten = s.srWritten := rfl
@[simp] theorem State.takeTrap_trapped (s : State) (e : Exception) :
    (s.takeTrap e).trapped = s.trapped := rfl
@[simp] theorem State.takeTrap_gte (s : State) (e : Exception) : (s.takeTrap e).gte = s.gte := rfl
@[simp] theorem State.takeTrap_mem (s : State) (e : Exception) : (s.takeTrap e).mem = s.mem := rfl
@[simp] theorem State.takeTrap_irqLevels (s : State) (e : Exception) :
    (s.takeTrap e).irqLevels = s.irqLevels := rfl
@[simp] theorem State.takeTrap_busCalls (s : State) (e : Exception) :
    (s.takeTrap e).busCalls = s.busCalls := rfl

/-! `raised` -/

@[simp] theorem State.raised_regs (s : State) (e : Exception) : (s.raised e).regs = s.regs := rfl
@[simp] theorem State.raised_hi (s : State) (e : Exception) : (s.raised e).hi = s.hi := rfl
@[simp] theorem State.raised_lo (s : State) (e : Exception) : (s.raised e).lo = s.lo := rfl
@[simp] theorem State.raised_pc (s : State) (e : Exception) :
    (s.raised e).pc = exceptionVector s.cop0.sr := rfl
@[simp] theorem State.raised_ldCur (s : State) (e : Exception) : (s.raised e).ldCur = s.ldCur := rfl
@[simp] theorem State.raised_ldNext (s : State) (e : Exception) :
    (s.raised e).ldNext = s.ldNext := rfl
@[simp] theorem State.raised_bdPending (s : State) (e : Exception) :
    (s.raised e).bdPending = false := rfl
@[simp] theorem State.raised_bdTarget (s : State) (e : Exception) :
    (s.raised e).bdTarget = s.bdTarget := rfl
@[simp] theorem State.raised_cycles (s : State) (e : Exception) :
    (s.raised e).cycles = s.cycles := rfl
@[simp] theorem State.raised_fatal (s : State) (e : Exception) : (s.raised e).fatal = s.fatal := rfl
@[simp] theorem State.raised_srWritten (s : State) (e : Exception) :
    (s.raised e).srWritten = s.srWritten := rfl
@[simp] theorem State.raised_trapped (s : State) (e : Exception) :
    (s.raised e).trapped = true := rfl
@[simp] theorem State.raised_cop0 (s : State) (e : Exception) :
    (s.raised e).cop0 = (s.takeTrap e).cop0 := rfl
@[simp] theorem State.raised_gte (s : State) (e : Exception) : (s.raised e).gte = s.gte := rfl
@[simp] theorem State.raised_mem (s : State) (e : Exception) : (s.raised e).mem = s.mem := rfl
@[simp] theorem State.raised_irqLevels (s : State) (e : Exception) :
    (s.raised e).irqLevels = s.irqLevels := rfl
@[simp] theorem State.raised_busCalls (s : State) (e : Exception) :
    (s.raised e).busCalls = s.busCalls := rfl

/-! `popStatus` -/

@[simp] theorem State.popStatus_regs (s : State) : (s.popStatus).regs = s.regs := rfl
@[simp] theorem State.popStatus_hi (s : State) : (s.popStatus).hi = s.hi := rfl
@[simp] theorem State.popStatus_lo (s : State) : (s.popStatus).lo = s.lo := rfl
@[simp] theorem State.popStatus_pc (s : State) : (s.popStatus).pc = s.pc := rfl
@[simp] theorem State.popStatus_ldCur (s : State) : (s.popStatus).ldCur = s.ldCur := rfl
@[simp] theorem State.popStatus_ldNext (s : State) : (s.popStatus).ldNext = s.ldNext := rfl
@[simp] theorem State.popStatus_bdPending (s : State) : (s.popStatus).bdPending = s.bdPending := rfl
@[simp] theorem State.popStatus_bdTarget (s : State) : (s.popStatus).bdTarget = s.bdTarget := rfl
@[simp] theorem State.popStatus_cycles (s : State) : (s.popStatus).cycles = s.cycles := rfl
@[simp] theorem State.popStatus_fatal (s : State) : (s.popStatus).fatal = s.fatal := rfl
@[simp] theorem State.popStatus_srWritten (s : State) : (s.popStatus).srWritten = true := rfl
@[simp] theorem State.popStatus_trapped (s : State) : (s.popStatus).trapped = s.trapped := rfl
@[simp] theorem State.popStatus_cop0 (s : State) :
    (s.popStatus).cop0 = { s.cop0 with sr := popMode s.cop0.sr } := rfl
@[simp] theorem State.popStatus_gte (s : State) : (s.popStatus).gte = s.gte := rfl
@[simp] theorem State.popStatus_mem (s : State) : (s.popStatus).mem = s.mem := rfl
@[simp] theorem State.popStatus_irqLevels (s : State) : (s.popStatus).irqLevels = s.irqLevels := rfl
@[simp] theorem State.popStatus_busCalls (s : State) : (s.popStatus).busCalls = s.busCalls := rfl

/-! `writeGte` -/

@[simp] theorem State.writeGte_regs (s : State) (n : BitVec 6) (v : Word) :
    (s.writeGte n v).regs = s.regs := rfl
@[simp] theorem State.writeGte_hi (s : State) (n : BitVec 6) (v : Word) :
    (s.writeGte n v).hi = s.hi := rfl
@[simp] theorem State.writeGte_lo (s : State) (n : BitVec 6) (v : Word) :
    (s.writeGte n v).lo = s.lo := rfl
@[simp] theorem State.writeGte_pc (s : State) (n : BitVec 6) (v : Word) :
    (s.writeGte n v).pc = s.pc := rfl
@[simp] theorem State.writeGte_ldCur (s : State) (n : BitVec 6) (v : Word) :
    (s.writeGte n v).ldCur = s.ldCur := rfl
@[simp] theorem State.writeGte_ldNext (s : State) (n : BitVec 6) (v : Word) :
    (s.writeGte n v).ldNext = s.ldNext := rfl
@[simp] theorem State.writeGte_bdPending (s : State) (n : BitVec 6) (v : Word) :
    (s.writeGte n v).bdPending = s.bdPending := rfl
@[simp] theorem State.writeGte_bdTarget (s : State) (n : BitVec 6) (v : Word) :
    (s.writeGte n v).bdTarget = s.bdTarget := rfl
@[simp] theorem State.writeGte_cycles (s : State) (n : BitVec 6) (v : Word) :
    (s.writeGte n v).cycles = s.cycles := rfl
@[simp] theorem State.writeGte_fatal (s : State) (n : BitVec 6) (v : Word) :
    (s.writeGte n v).fatal = s.fatal := rfl
@[simp] theorem State.writeGte_srWritten (s : State) (n : BitVec 6) (v : Word) :
    (s.writeGte n v).srWritten = s.srWritten := rfl
@[simp] theorem State.writeGte_trapped (s : State) (n : BitVec 6) (v : Word) :
    (s.writeGte n v).trapped = s.trapped := rfl
@[simp] theorem State.writeGte_cop0 (s : State) (n : BitVec 6) (v : Word) :
    (s.writeGte n v).cop0 = s.cop0 := rfl
@[simp] theorem State.writeGte_gte (s : State) (n : BitVec 6) (v : Word) :
    (s.writeGte n v).gte = s.gte.portWrite config.gteSxy2WritePushes n v := rfl
@[simp] theorem State.writeGte_mem (s : State) (n : BitVec 6) (v : Word) :
    (s.writeGte n v).mem = s.mem := rfl
@[simp] theorem State.writeGte_irqLevels (s : State) (n : BitVec 6) (v : Word) :
    (s.writeGte n v).irqLevels = s.irqLevels := rfl
@[simp] theorem State.writeGte_busCalls (s : State) (n : BitVec 6) (v : Word) :
    (s.writeGte n v).busCalls = s.busCalls := rfl

/-! `beginStep` -/

@[simp] theorem State.beginStep_regs (s : State) : (s.beginStep).regs = s.regs := rfl
@[simp] theorem State.beginStep_hi (s : State) : (s.beginStep).hi = s.hi := rfl
@[simp] theorem State.beginStep_lo (s : State) : (s.beginStep).lo = s.lo := rfl
@[simp] theorem State.beginStep_pc (s : State) : (s.beginStep).pc = s.pc := rfl
@[simp] theorem State.beginStep_ldCur (s : State) : (s.beginStep).ldCur = s.ldCur := rfl
@[simp] theorem State.beginStep_ldNext (s : State) : (s.beginStep).ldNext = s.ldNext := rfl
@[simp] theorem State.beginStep_bdPending (s : State) : (s.beginStep).bdPending = s.bdPending := rfl
@[simp] theorem State.beginStep_bdTarget (s : State) : (s.beginStep).bdTarget = s.bdTarget := rfl
@[simp] theorem State.beginStep_cycles (s : State) : (s.beginStep).cycles = s.cycles := rfl
@[simp] theorem State.beginStep_fatal (s : State) : (s.beginStep).fatal = s.fatal := rfl
@[simp] theorem State.beginStep_srWritten (s : State) : (s.beginStep).srWritten = false := rfl
@[simp] theorem State.beginStep_trapped (s : State) : (s.beginStep).trapped = false := rfl
@[simp] theorem State.beginStep_cop0 (s : State) : (s.beginStep).cop0 = s.cop0 := rfl
@[simp] theorem State.beginStep_gte (s : State) : (s.beginStep).gte = s.gte := rfl
@[simp] theorem State.beginStep_mem (s : State) : (s.beginStep).mem = s.mem := rfl
@[simp] theorem State.beginStep_irqLevels (s : State) : (s.beginStep).irqLevels = s.irqLevels := rfl
@[simp] theorem State.beginStep_busCalls (s : State) : (s.beginStep).busCalls = [] := rfl

/-! `sampleLine` -/

@[simp] theorem State.sampleLine_regs (s : State) : (s.sampleLine).regs = s.regs := rfl
@[simp] theorem State.sampleLine_hi (s : State) : (s.sampleLine).hi = s.hi := rfl
@[simp] theorem State.sampleLine_lo (s : State) : (s.sampleLine).lo = s.lo := rfl
@[simp] theorem State.sampleLine_pc (s : State) : (s.sampleLine).pc = s.pc := rfl
@[simp] theorem State.sampleLine_ldCur (s : State) : (s.sampleLine).ldCur = s.ldCur := rfl
@[simp] theorem State.sampleLine_ldNext (s : State) : (s.sampleLine).ldNext = s.ldNext := rfl
@[simp] theorem State.sampleLine_bdPending (s : State) :
    (s.sampleLine).bdPending = s.bdPending := rfl
@[simp] theorem State.sampleLine_bdTarget (s : State) : (s.sampleLine).bdTarget = s.bdTarget := rfl
@[simp] theorem State.sampleLine_cycles (s : State) : (s.sampleLine).cycles = s.cycles := rfl
@[simp] theorem State.sampleLine_fatal (s : State) : (s.sampleLine).fatal = s.fatal := rfl
@[simp] theorem State.sampleLine_srWritten (s : State) :
    (s.sampleLine).srWritten = s.srWritten := rfl
@[simp] theorem State.sampleLine_trapped (s : State) : (s.sampleLine).trapped = s.trapped := rfl
@[simp] theorem State.sampleLine_gte (s : State) : (s.sampleLine).gte = s.gte := rfl
@[simp] theorem State.sampleLine_mem (s : State) : (s.sampleLine).mem = s.mem := rfl
@[simp] theorem State.sampleLine_irqLevels (s : State) :
    (s.sampleLine).irqLevels = s.irqLevels.tail := rfl
@[simp] theorem State.sampleLine_busCalls (s : State) : (s.sampleLine).busCalls = s.busCalls := rfl

/-! `noteFetch` -/

@[simp] theorem State.noteFetch_regs (s : State) : (s.noteFetch).regs = s.regs := rfl
@[simp] theorem State.noteFetch_hi (s : State) : (s.noteFetch).hi = s.hi := rfl
@[simp] theorem State.noteFetch_lo (s : State) : (s.noteFetch).lo = s.lo := rfl
@[simp] theorem State.noteFetch_pc (s : State) : (s.noteFetch).pc = s.pc := rfl
@[simp] theorem State.noteFetch_ldCur (s : State) : (s.noteFetch).ldCur = s.ldCur := rfl
@[simp] theorem State.noteFetch_ldNext (s : State) : (s.noteFetch).ldNext = s.ldNext := rfl
@[simp] theorem State.noteFetch_bdPending (s : State) : (s.noteFetch).bdPending = s.bdPending := rfl
@[simp] theorem State.noteFetch_bdTarget (s : State) : (s.noteFetch).bdTarget = s.bdTarget := rfl
@[simp] theorem State.noteFetch_cycles (s : State) : (s.noteFetch).cycles = s.cycles := rfl
@[simp] theorem State.noteFetch_fatal (s : State) : (s.noteFetch).fatal = s.fatal := rfl
@[simp] theorem State.noteFetch_srWritten (s : State) : (s.noteFetch).srWritten = s.srWritten := rfl
@[simp] theorem State.noteFetch_trapped (s : State) : (s.noteFetch).trapped = s.trapped := rfl
@[simp] theorem State.noteFetch_cop0 (s : State) : (s.noteFetch).cop0 = s.cop0 := rfl
@[simp] theorem State.noteFetch_gte (s : State) : (s.noteFetch).gte = s.gte := rfl
@[simp] theorem State.noteFetch_mem (s : State) : (s.noteFetch).mem = s.mem := rfl
@[simp] theorem State.noteFetch_irqLevels (s : State) : (s.noteFetch).irqLevels = s.irqLevels := rfl
@[simp] theorem State.noteFetch_busCalls (s : State) :
    (s.noteFetch).busCalls = s.busCalls ++ [.readWord s.pc] := rfl

/-! `commitPhase` -/

@[simp] theorem State.commitPhase_hi (s : State) : (s.commitPhase).hi = s.hi := rfl
@[simp] theorem State.commitPhase_lo (s : State) : (s.commitPhase).lo = s.lo := rfl
@[simp] theorem State.commitPhase_pc (s : State) : (s.commitPhase).pc = s.pc := rfl
@[simp] theorem State.commitPhase_ldCur (s : State) : (s.commitPhase).ldCur = s.ldNext := rfl
@[simp] theorem State.commitPhase_ldNext (s : State) : (s.commitPhase).ldNext = none := rfl
@[simp] theorem State.commitPhase_bdPending (s : State) :
    (s.commitPhase).bdPending = s.bdPending := rfl
@[simp] theorem State.commitPhase_bdTarget (s : State) :
    (s.commitPhase).bdTarget = s.bdTarget := rfl
@[simp] theorem State.commitPhase_cycles (s : State) : (s.commitPhase).cycles = s.cycles := rfl
@[simp] theorem State.commitPhase_fatal (s : State) : (s.commitPhase).fatal = s.fatal := rfl
@[simp] theorem State.commitPhase_srWritten (s : State) :
    (s.commitPhase).srWritten = s.srWritten := rfl
@[simp] theorem State.commitPhase_trapped (s : State) : (s.commitPhase).trapped = s.trapped := rfl
@[simp] theorem State.commitPhase_cop0 (s : State) : (s.commitPhase).cop0 = s.cop0 := rfl
@[simp] theorem State.commitPhase_gte (s : State) : (s.commitPhase).gte = s.gte := rfl
@[simp] theorem State.commitPhase_mem (s : State) : (s.commitPhase).mem = s.mem := rfl
@[simp] theorem State.commitPhase_irqLevels (s : State) :
    (s.commitPhase).irqLevels = s.irqLevels := rfl
@[simp] theorem State.commitPhase_busCalls (s : State) :
    (s.commitPhase).busCalls = s.busCalls := rfl

/-! `tick` -/

@[simp] theorem State.tick_regs (s : State) : (s.tick).regs = s.regs := rfl
@[simp] theorem State.tick_hi (s : State) : (s.tick).hi = s.hi := rfl
@[simp] theorem State.tick_lo (s : State) : (s.tick).lo = s.lo := rfl
@[simp] theorem State.tick_pc (s : State) : (s.tick).pc = s.pc := rfl
@[simp] theorem State.tick_ldCur (s : State) : (s.tick).ldCur = s.ldCur := rfl
@[simp] theorem State.tick_ldNext (s : State) : (s.tick).ldNext = s.ldNext := rfl
@[simp] theorem State.tick_bdPending (s : State) : (s.tick).bdPending = s.bdPending := rfl
@[simp] theorem State.tick_bdTarget (s : State) : (s.tick).bdTarget = s.bdTarget := rfl
@[simp] theorem State.tick_cycles (s : State) : (s.tick).cycles = s.cycles + 1 := rfl
@[simp] theorem State.tick_fatal (s : State) : (s.tick).fatal = s.fatal := rfl
@[simp] theorem State.tick_srWritten (s : State) : (s.tick).srWritten = s.srWritten := rfl
@[simp] theorem State.tick_trapped (s : State) : (s.tick).trapped = s.trapped := rfl
@[simp] theorem State.tick_cop0 (s : State) : (s.tick).cop0 = s.cop0 := rfl
@[simp] theorem State.tick_gte (s : State) : (s.tick).gte = s.gte := rfl
@[simp] theorem State.tick_mem (s : State) : (s.tick).mem = s.mem := rfl
@[simp] theorem State.tick_irqLevels (s : State) : (s.tick).irqLevels = s.irqLevels := rfl
@[simp] theorem State.tick_busCalls (s : State) : (s.tick).busCalls = s.busCalls := rfl

end Sys2Proof.Machine
end

