-- ==== Sys2Proof/Laws/Ops.lean ====
section
/-! SUPPORT. What each shared operation can do, said once: register reads and writes, the queue, the
ends of the instructions, trap entry. -/

namespace Sys2Proof.Machine

/-! ### Registers and the queue -/

@[simp] theorem State.readReg_zero (s : State) : s.readReg 0 = 0 := rfl

/-- A read looks only at the register file. -/
theorem State.readReg_congr {s t : State} (h : t.regs = s.regs) (q : RegIdx) :
    t.readReg q = s.readReg q := by
  simp [State.readReg, h]

/-- The register file after `putReg`, read through `readReg`. -/
theorem State.wroteReg_putReg {s t : State} (r : RegIdx) (v : Word)
    (h : t.regs = putReg s.regs r v) : WroteReg r v s t := by
  intro q
  unfold State.readReg
  rw [h]
  unfold putReg
  by_cases hq : q = 0
  · rw [if_pos hq, if_pos hq]
  · rw [if_neg hq, if_neg hq, if_neg hq]
    by_cases hqr : q = r
    · subst hqr
      simp only [hq, if_true, if_false, Vector.getElem_set_self]
    · rw [if_neg hqr]
      have hne : r.toNat ≠ q.toNat := fun e => hqr (BitVec.eq_of_toNat_eq e.symm)
      split
      · rfl
      · exact Vector.getElem_set_ne _ _ hne

/-- The place of register 0 is never written. -/
@[simp] theorem putReg_zeroPlace (regs : Vector Word 32) (r : RegIdx) (v : Word) :
    (putReg regs r v)[0] = regs[0] := by
  unfold putReg
  split
  · rfl
  · rename_i h
    have hne : r.toNat ≠ 0 := fun e => h (BitVec.eq_of_toNat_eq e)
    simp [hne]

/-- What is left of a queue place after `dropLoad`. -/
theorem dropLoad_eq_some {r : RegIdx} {o : Option LoadEntry} {e : LoadEntry} :
    dropLoad r o = some e ↔ o = some e ∧ e.reg ≠ r := by
  cases o with
  | none => simp [dropLoad]
  | some p =>
    simp only [dropLoad, Option.filter_eq_some_iff, Option.some.injEq, bne_iff_ne]

/-- A place with `dropLoad r` applied holds no entry for `r`. -/
theorem State.dropsLoad {s t : State} (r : RegIdx) (h : t.ldCur = dropLoad r s.ldCur) :
    DropsLoad r s t := fun e => by rw [h, dropLoad_eq_some]

/-! ### The ends of the instructions -/

/-- `writeBack` always completes, with the effect of an immediate write. -/
theorem immediateWrite_writeBack (r : RegIdx) (v : Word) (s : State) :
    ImmediateWrite r v s (s.writeReg r v).advance where
  register := State.wroteReg_putReg r v rfl
  queue := State.dropsLoad r rfl
  next := rfl
  frame := rfl

/-- `finishLoad` always completes, with the effect of a delayed write and its one bus call. -/
theorem delayedWrite_finishLoad (r : RegIdx) (c : BusCall) (v : Word) (s : State) :
    DelayedWrite r v [c] s ((s.noteBus c).delayedWrite r v).advance where
  queued := rfl
  queue := State.dropsLoad r rfl
  bus := rfl
  next := rfl
  frame := rfl

/-- A move from a coprocessor: a delayed write with no bus call. -/
theorem delayedWrite_move (r : RegIdx) (v : Word) (s : State) :
    DelayedWrite r v [] s (s.delayedWrite r v).advance where
  queued := rfl
  queue := State.dropsLoad r rfl
  bus := (List.append_nil _).symm
  next := rfl
  frame := rfl

/-- `writeHiLo` always completes. -/
theorem wroteHiLo_writeHiLo (hi lo : Word) (s : State) :
    WroteHiLo hi lo s ({ s with hi := hi, lo := lo } : State).advance := ⟨rfl, rfl, rfl, rfl⟩

/-- Everything `transfer` can do: it stops where a taken transfer meets a pending one, records the
jump where it is taken, and only links where it is not. -/
theorem transfer_cases (c : Bool) (a : Word) (rd : Option RegIdx) (s : State) :
    (c = true ∧ s.bdPending = true ∧ transfer c a rd s = .fault .jumpInDelaySlot) ∨
    (c = true ∧ s.bdPending = false ∧
      transfer c a rd s = .next ((link rd s).setJump a).advance) ∨
    (c = false ∧ transfer c a rd s = .next (link rd s).advance) := by
  cases c <;> cases h : s.bdPending <;> simp [transfer, h]

/-- A recorded jump that does not link. -/
theorem recordsJump_transfer (a : Word) (s : State) :
    RecordsJump a s (s.setJump a).advance ∧ NoRegisterWrite s (s.setJump a).advance :=
  ⟨⟨rfl, rfl, rfl, rfl⟩, rfl, rfl⟩

/-- A recorded jump that links. -/
theorem recordsJump_link (a : Word) (r : RegIdx) (s : State) :
    RecordsJump a s ((s.writeReg r (s.pc + 8)).setJump a).advance ∧
      Links r s ((s.writeReg r (s.pc + 8)).setJump a).advance :=
  ⟨⟨rfl, rfl, rfl, rfl⟩, State.wroteReg_putReg r _ rfl, State.dropsLoad r rfl⟩

/-- Everything a GTE command's frame can do. -/
theorem gteCommand_cases (f : Gte → Gte) (s : State) :
    (s.gteUsable = true ∧
      gteCommand f s = .next { s with gte := f s.gte.clearFlag, pc := s.pc + 4 }) ∨
    (s.gteUsable = false ∧ gteCommand f s = .next (s.raised (.coprocessorUnusable 2))) := by
  cases h : s.gteUsable
  · exact .inr ⟨rfl, by simp [gteCommand, h, raise]⟩
  · exact .inl ⟨rfl, by simp [gteCommand, h, State.advance]⟩

/-! ### Trap entry -/

/-- The bad address of a trap, where its kind has one. -/
def Exception.badAddress? (e : Exception) : Option Word :=
  match e with
  | .adel a => some a
  | .ades a => some a
  | .interrupt | .mod | .tlbl | .tlbs | .ibusError | .dbusError | .syscall
  | .breakpoint | .reservedInstruction | .coprocessorUnusable _ | .arithmeticOverflow => none

theorem Exception.badAddress_eq (e : Exception) (old : Word) :
    e.badAddress old = e.badAddress?.getD old := by cases e <;> rfl

theorem causeAfterTrap_bd (e : Exception) (bd : Bool) (c : Word) :
    (causeAfterTrap e bd c).getLsbD 31 = bd := by
  cases bd <;> simp [causeAfterTrap, place]

theorem causeAfterTrap_ce (e : Exception) (bd : Bool) (c : Word) :
    (causeAfterTrap e bd c).extractLsb' 28 2 = e.coprocessor := by
  ext i hi
  simp [causeAfterTrap, place]
  interval_cases i <;> simp

theorem causeAfterTrap_code (e : Exception) (bd : Bool) (c : Word) :
    (causeAfterTrap e bd c).extractLsb' 2 5 = e.code := by
  ext i hi
  simp [causeAfterTrap, place]
  interval_cases i <;> simp

theorem causeAfterTrap_rest (e : Exception) (bd : Bool) (c : Word) :
    causeAfterTrap e bd c &&& ~~~causeTrapBits = c &&& ~~~causeTrapBits := by
  ext i hi
  simp [causeAfterTrap, causeTrapBits, place]
  interval_cases i <;> simp

theorem pushMode_current (sr : Word) : (pushMode sr).extractLsb' 0 2 = 0 := by
  ext i hi
  simp [pushMode]
  interval_cases i <;> simp

theorem pushMode_previous (sr : Word) :
    (pushMode sr).extractLsb' 2 2 = sr.extractLsb' 0 2 := by
  ext i hi
  simp [pushMode]
  interval_cases i <;> simp

theorem pushMode_old (sr : Word) : (pushMode sr).extractLsb' 4 2 = sr.extractLsb' 2 2 := by
  ext i hi
  simp [pushMode]
  interval_cases i <;> simp

theorem pushMode_rest (sr : Word) : (pushMode sr).extractLsb' 6 26 = sr.extractLsb' 6 26 := by
  ext i hi
  simp [pushMode]
  interval_cases i <;> simp

theorem popMode_low (sr : Word) : (popMode sr).extractLsb' 0 4 = sr.extractLsb' 2 4 := by
  ext i hi
  simp [popMode]
  interval_cases i <;> simp

theorem popMode_rest (sr : Word) : (popMode sr).extractLsb' 4 28 = sr.extractLsb' 4 28 := by
  ext i hi
  simp [popMode]
  interval_cases i <;> simp

/-- Everything trap entry does, whatever the kind; the mark of the step may be set with it. -/
theorem trapEntered_takeTrap (e : Exception) (s : State) (m : Bool) :
    TrapEntered e.code e.coprocessor e.badAddress? s { s.takeTrap e with trapped := m } where
  epc := rfl
  tar := rfl
  bd := causeAfterTrap_bd e _ _
  ceField := causeAfterTrap_ce e _ _
  codeField := causeAfterTrap_code e _ _
  causeRest := causeAfterTrap_rest e _ _
  badVaddr := e.badAddress_eq _
  current := pushMode_current _
  previous := pushMode_previous _
  old := pushMode_old _
  statusRest := pushMode_rest _
  vector := rfl
  cop0Frame := rfl
  frame := rfl

/-- Everything `raise` does. -/
theorem raise_traps (e : Exception) (s : State) :
    ∃ t, raise e s = .next t ∧ TrapEntered e.code e.coprocessor e.badAddress? s t ∧
      t.trapped = true :=
  ⟨_, rfl, trapEntered_takeTrap e s true, rfl⟩

end Sys2Proof.Machine
end

