-- ==== Sys2Proof/Laws/Gte.lean ====
section
/-! SUPPORT. What the primitives of the GTE can change, what a raised flag reads, and the words the
stores leave. -/

namespace Sys2Proof.Machine

/-! ### Frames -/

/-- `h` differs from `g` in the lanes, IR1 to IR3 and MAC1 to MAC3, and in FLAG at most. -/
def Gte.OnlyLanes (g h : Gte) : Prop :=
  ∃ m1 m2 m3 i1 i2 i3 f, h = { g with
    mac1 := m1, mac2 := m2, mac3 := m3, ir1 := i1, ir2 := i2, ir3 := i3, flag := f }

theorem Gte.onlyLanes_refl (g : Gte) : g.OnlyLanes g := ⟨_, _, _, _, _, _, _, rfl⟩

theorem Gte.OnlyLanes.trans {g h k : Gte} : g.OnlyLanes h → h.OnlyLanes k → g.OnlyLanes k := by
  rintro ⟨_, _, _, _, _, _, _, rfl⟩ ⟨_, _, _, _, _, _, _, rfl⟩
  exact ⟨_, _, _, _, _, _, _, rfl⟩

theorem Gte.onlyLanes_raiseFlag (c : Bool) (b : Nat) (g : Gte) : g.OnlyLanes (g.raiseFlag c b) :=
  ⟨_, _, _, _, _, _, _, rfl⟩

theorem Gte.onlyLanes_setMac (l : Lane) (x : Int) (s : Nat) (g : Gte) :
    g.OnlyLanes (g.setMac l x s) := ⟨_, _, _, _, _, _, _, rfl⟩

theorem Gte.onlyLanes_setIr (l : Lane) (v : Int) (lm : Bool) (g : Gte) :
    g.OnlyLanes (g.setIr l v lm) := ⟨_, _, _, _, _, _, _, rfl⟩

theorem Gte.onlyLanes_putIr (l : Lane) (v : Half) (g : Gte) : g.OnlyLanes (g.putIr l v) :=
  ⟨_, _, _, _, _, _, _, rfl⟩

theorem Gte.onlyLanes_setMacIr (l : Lane) (x : Int) (s : Nat) (lm : Bool) (g : Gte) :
    g.OnlyLanes (g.setMacIr l x s lm) :=
  (Gte.onlyLanes_setMac l x s g).trans (Gte.onlyLanes_setIr l _ lm _)

theorem Gte.onlyLanes_checkMac (l : Lane) (x : Int) (g : Gte) : g.OnlyLanes (g.checkMac l x) :=
  (Gte.onlyLanes_raiseFlag _ _ g).trans (Gte.onlyLanes_raiseFlag _ _ _)

theorem Gte.onlyLanes_checkRow (l : Lane) (t : Option Int) (m v : IVec) (g : Gte) :
    g.OnlyLanes (g.checkRow l t m v) := by
  cases t with
  | none => exact Gte.onlyLanes_checkMac _ _ _
  | some t => exact (Gte.onlyLanes_checkMac _ _ _).trans (Gte.onlyLanes_checkMac _ _ _)

/-- A loop over the lanes keeps what its body keeps. -/
theorem Gte.onlyLanes_forLanes {f : Lane → Gte → Gte} (h : ∀ (l : Lane) (g : Gte), g.OnlyLanes (f l g))
    (g : Gte) : g.OnlyLanes (g.forLanes f) := ((h .one g).trans (h .two _)).trans (h .three _)

theorem Gte.onlyLanes_mulMat (m : IMat) (t : Option IVec) (v : IVec) (sh : Nat) (lm : Bool)
    (g : Gte) : g.OnlyLanes (g.mulMat m t v sh lm) := by
  unfold Gte.mulMat
  apply Gte.onlyLanes_forLanes
  intro l g
  exact (Gte.onlyLanes_checkRow l _ _ _ g).trans (Gte.onlyLanes_setMacIr l _ sh lm _)

theorem Gte.onlyLanes_interp (m : IVec) (sh : Nat) (lm : Bool) (g : Gte) :
    g.OnlyLanes (g.interp m sh lm) := by
  unfold Gte.interp Gte.interpNear Gte.interpFar
  refine Gte.OnlyLanes.trans (Gte.onlyLanes_forLanes ?_ _) (Gte.onlyLanes_forLanes ?_ _)
  · exact fun l g => Gte.onlyLanes_setMacIr l _ sh false g
  · exact fun l g => Gte.onlyLanes_setMacIr l _ sh lm g

theorem Gte.onlyLanes_light (v : Vec16) (sh : Nat) (lm : Bool) (g : Gte) :
    g.OnlyLanes (g.light v sh lm) := by
  unfold Gte.light Gte.colourTransform
  exact (Gte.onlyLanes_mulMat _ _ _ sh lm g).trans (Gte.onlyLanes_mulMat _ _ _ sh lm _)

theorem Gte.onlyLanes_farColourRow (l : Lane) (m v : IVec) (sh : Nat) (lm : Bool) (g : Gte) :
    g.OnlyLanes (g.farColourRow l m v sh lm) := by
  unfold Gte.farColourRow
  exact (((Gte.onlyLanes_checkMac l _ g).trans (Gte.onlyLanes_setIr l _ false _)).trans
    (Gte.onlyLanes_checkMac l _ _)).trans (Gte.onlyLanes_setMacIr l _ sh lm _)

theorem Gte.onlyLanes_multiplyAdd (mx : MatrixSel) (vx : VectorSel) (tx : TranslationSel) (sh : Nat)
    (lm : Bool) (g : Gte) : g.OnlyLanes (g.multiplyAdd mx vx tx sh lm) := by
  unfold Gte.multiplyAdd
  cases tx
  · exact Gte.onlyLanes_mulMat _ _ _ sh lm g
  · exact Gte.onlyLanes_mulMat _ _ _ sh lm g
  · exact Gte.onlyLanes_forLanes (fun l g => Gte.onlyLanes_farColourRow l _ _ sh lm g) g
  · exact Gte.onlyLanes_mulMat _ _ _ sh lm g

/-- `h` differs from `g` as `OnlyLanes` allows, and in the colour FIFO. -/
def Gte.OnlyColours (g h : Gte) : Prop :=
  ∃ k c0 c1 c2, g.OnlyLanes k ∧ h = { k with rgb0 := c0, rgb1 := c1, rgb2 := c2 }

theorem Gte.OnlyLanes.onlyColours {g h : Gte} (e : g.OnlyLanes h) : g.OnlyColours h :=
  ⟨h, _, _, _, e, rfl⟩

theorem Gte.OnlyColours.trans {g h k : Gte} : g.OnlyColours h → h.OnlyColours k → g.OnlyColours k := by
  rintro ⟨_, _, _, _, ⟨_, _, _, _, _, _, _, rfl⟩, rfl⟩ ⟨_, _, _, _, ⟨_, _, _, _, _, _, _, rfl⟩, rfl⟩
  exact ⟨_, _, _, _, ⟨_, _, _, _, _, _, _, rfl⟩, rfl⟩

theorem Gte.onlyColours_pushRgb (g : Gte) : g.OnlyColours g.pushRgb :=
  ⟨_, _, _, _, ⟨_, _, _, _, _, _, _, rfl⟩, rfl⟩

/-! ### Flags -/

/-- A bit of FLAG after `raiseFlag`. -/
theorem Gte.raiseFlag_bit (c : Bool) (b k : Nat) (g : Gte) (hb : b < 32) :
    (g.raiseFlag c b).flag.getLsbD k = (g.flag.getLsbD k || (c && decide (k = b))) := by
  have one : ∀ j : Nat, (1#32).getLsbD j = decide (j = 0) := fun j => by
    cases j with
    | zero => rfl
    | succ j => simp [BitVec.getLsbD, Nat.testBit_succ]
  cases c
  · simp [Gte.raiseFlag]
  · simp only [Gte.raiseFlag, if_true, BitVec.getLsbD_or, BitVec.getLsbD_shiftLeft, one,
      Bool.true_and]
    congr 1
    by_cases h : k = b
    · subst h
      simp [hb]
    · have : k < b ∨ k - b ≠ 0 := by omega
      rcases this with h' | h' <;> simp [h, h']

/-! ### Values -/

/-- The low 32 bits of a wrapped value are those of the value. -/
theorem ofInt_wrap32 (x : Int) : BitVec.ofInt 32 (wrap32 x) = BitVec.ofInt 32 x :=
  BitVec.ofInt_toInt

/-- A value that fits 44 bits is not wrapped. -/
theorem wrap44_of_fits {x : Int} (h : Fits44 x) : wrap44 x = x := by
  unfold Fits44 at h
  unfold wrap44
  rw [BitVec.toInt_ofInt, Int.bmod_def]
  split <;> omega

/-- What limA yields fits a half. -/
theorem toInt_limA (lm : Bool) (v : Int) : (BitVec.ofInt 16 (limA lm v)).toInt = limA lm v := by
  rw [BitVec.toInt_ofInt, Int.bmod_def]
  cases lm <;> simp only [limA, clamp, irFloor] <;> split <;> simp at * <;> omega

/-- What the stores of one lane leave there: the low 32 bits after the shift, and that word limited. -/
theorem Gte.setMacIr_one (x : Int) (s : Nat) (lm : Bool) (g : Gte) :
    (g.setMacIr .one x s lm).mac1 = BitVec.ofInt 32 (x >>> s) ∧
      (g.setMacIr .one x s lm).ir1.toInt = limA lm (BitVec.ofInt 32 (x >>> s)).toInt :=
  ⟨rfl, toInt_limA _ _⟩

theorem Gte.setMacIr_two (x : Int) (s : Nat) (lm : Bool) (g : Gte) :
    (g.setMacIr .two x s lm).mac2 = BitVec.ofInt 32 (x >>> s) ∧
      (g.setMacIr .two x s lm).ir2.toInt = limA lm (BitVec.ofInt 32 (x >>> s)).toInt :=
  ⟨rfl, toInt_limA _ _⟩

theorem Gte.setMacIr_three (x : Int) (s : Nat) (lm : Bool) (g : Gte) :
    (g.setMacIr .three x s lm).mac3 = BitVec.ofInt 32 (x >>> s) ∧
      (g.setMacIr .three x s lm).ir3.toInt = limA lm (BitVec.ofInt 32 (x >>> s)).toInt :=
  ⟨rfl, toInt_limA _ _⟩

end Sys2Proof.Machine
end

