-- ==== Sys2Proof/Laws/Memory.lean ====
section
/-! SUPPORT. The laws of memory: every write keeps the canonical form, and reads the bytes it wrote
and every other byte as before. -/

namespace Sys2Proof.Machine

/-- The canonical form of a memory with a first entry. -/
theorem Memory.wfFrom_cons {lo k : Nat} {v : Byte} {rest : Memory} :
    Memory.wfFrom lo ((k, v) :: rest) = true ↔
      lo ≤ k ∧ k < 2 ^ 32 ∧ v ≠ unlistedByte ∧ rest.wfFrom (k + 1) = true := by
  simp only [Memory.wfFrom, Bool.and_eq_true, decide_eq_true_eq, bne_iff_ne, and_assoc]

/-- The canonical form from a higher address on is the form from a lower one on. -/
theorem Memory.wfFrom_mono {m : Memory} {lo lo' : Nat} (h : lo' ≤ lo) (hm : m.wfFrom lo = true) :
    m.wfFrom lo' = true := by
  cases m with
  | nil => rfl
  | cons p rest =>
    have h' := Memory.wfFrom_cons.mp hm
    exact Memory.wfFrom_cons.mpr ⟨h.trans h'.1, h'.2⟩

/-- An address below every entry reads as unlisted. -/
theorem Memory.lookup_below {m : Memory} {lo a : Nat} (hm : m.wfFrom lo = true) (ha : a < lo) :
    m.lookup a = unlistedByte := by
  induction m generalizing lo with
  | nil => rfl
  | cons p rest ih =>
    obtain ⟨k, v⟩ := p
    obtain ⟨hlo, -, -, hr⟩ := Memory.wfFrom_cons.mp hm
    have hk : k ≠ a := by omega
    simpa [Memory.lookup, hk] using ih hr (by omega)

/-- A store keeps the canonical form. -/
theorem Memory.wfFrom_store {m : Memory} {lo a : Nat} {v : Byte} (hm : m.wfFrom lo = true)
    (hlo : lo ≤ a) (ha : a < 2 ^ 32) : (m.store a v).wfFrom lo = true := by
  induction m generalizing lo with
  | nil =>
    unfold Memory.store
    split
    · exact hm
    · rename_i hv
      exact Memory.wfFrom_cons.mpr ⟨hlo, ha, hv, rfl⟩
  | cons p rest ih =>
    obtain ⟨k, w⟩ := p
    obtain ⟨hlk, hk, hw, hr⟩ := Memory.wfFrom_cons.mp hm
    unfold Memory.store
    split
    · rename_i h
      split
      · exact hm
      · rename_i hv
        exact Memory.wfFrom_cons.mpr ⟨hlo, ha, hv, Memory.wfFrom_cons.mpr ⟨h, hk, hw, hr⟩⟩
    · split
      · rename_i h
        subst h
        split
        · exact Memory.wfFrom_mono (by omega) hr
        · rename_i hv
          exact Memory.wfFrom_cons.mpr ⟨hlo, ha, hv, hr⟩
      · exact Memory.wfFrom_cons.mpr ⟨hlk, hk, hw, ih hr (by omega)⟩

/-- A byte after a store: the one stored, or the one of before. -/
theorem Memory.lookup_store {m : Memory} {lo a b : Nat} {v : Byte} (hm : m.wfFrom lo = true) :
    (m.store a v).lookup b = if b = a then v else m.lookup b := by
  induction m generalizing lo with
  | nil =>
    by_cases hv : v = unlistedByte
    · simp [Memory.store, Memory.lookup, hv]
    · by_cases hb : b = a
      · simp [Memory.store, Memory.lookup, hv, hb]
      · simp [Memory.store, Memory.lookup, hv, hb, Ne.symm hb]
  | cons p rest ih =>
    obtain ⟨k, w⟩ := p
    obtain ⟨-, -, -, hr⟩ := Memory.wfFrom_cons.mp hm
    unfold Memory.store
    split
    · rename_i h
      by_cases hb : b = a
      · subst hb
        have hk : k ≠ b := by omega
        split
        · rename_i hv
          simp [Memory.lookup, hk, hv, Memory.lookup_below hr (by omega : b < k + 1)]
        · simp [Memory.lookup]
      · split <;> simp [Memory.lookup, Ne.symm hb]
    · split
      · rename_i h
        subst h
        by_cases hb : b = a
        · subst hb
          split
          · rename_i hv
            simp [hv, Memory.lookup_below hr (by omega : b < b + 1)]
          · simp [Memory.lookup]
        · split <;> simp [Memory.lookup, Ne.symm hb]
      · rename_i h
        by_cases hb : k = b
        · simp [Memory.lookup, hb, show ¬b = a by omega]
        · simp [Memory.lookup, hb, ih hr]

/-- `writeByte` keeps the canonical form. -/
theorem Memory.wf_writeByte {m : Memory} (hm : m.wf = true) (a : Word) (v : Byte) :
    (m.writeByte a v).wf = true := Memory.wfFrom_store hm (Nat.zero_le _) a.isLt

/-- `writeHalf` keeps the canonical form. -/
theorem Memory.wf_writeHalf {m : Memory} (hm : m.wf = true) (a : Word) (v : Half) :
    (m.writeHalf a v).wf = true := Memory.wf_writeByte (Memory.wf_writeByte hm _ _) _ _

/-- `writeWord` keeps the canonical form. -/
theorem Memory.wf_writeWord {m : Memory} (hm : m.wf = true) (a : Word) (v : Word) :
    (m.writeWord a v).wf = true :=
  Memory.wf_writeByte (Memory.wf_writeByte (Memory.wf_writeByte (Memory.wf_writeByte hm _ _) _ _)
    _ _) _ _

/-- A byte read after `writeByte` (R82). -/
theorem Memory.readByte_writeByte {m : Memory} (hm : m.wf = true) (a b : Word) (v : Byte) :
    (m.writeByte a v).readByte b = if b = a then v else m.readByte b := by
  have h := Memory.lookup_store (b := b.toNat) (a := a.toNat) (v := v) hm
  simpa [Memory.readByte, Memory.writeByte, BitVec.toNat_inj] using h

/-- A byte read after `writeHalf` (R82, R83). -/
theorem Memory.readByte_writeHalf {m : Memory} (hm : m.wf = true) (a b : Word) (v : Half) :
    (m.writeHalf a v).readByte b =
      if b = a + 1 then v.extractLsb' 8 8 else if b = a then v.extractLsb' 0 8
      else m.readByte b := by
  simp [Memory.writeHalf, Memory.readByte_writeByte, Memory.wf_writeByte, hm]

/-- A byte read after `writeWord` (R82, R83). -/
theorem Memory.readByte_writeWord {m : Memory} (hm : m.wf = true) (a b : Word) (v : Word) :
    (m.writeWord a v).readByte b =
      if b = a + 3 then byteAt 24 v else if b = a + 2 then byteAt 16 v
      else if b = a + 1 then byteAt 8 v else if b = a then byteAt 0 v else m.readByte b := by
  have h1 := Memory.wf_writeByte hm a (byteAt 0 v)
  have h2 := Memory.wf_writeByte h1 (a + 1) (byteAt 8 v)
  have h3 := Memory.wf_writeByte h2 (a + 2) (byteAt 16 v)
  rw [Memory.writeWord, Memory.readByte_writeByte h3, Memory.readByte_writeByte h2,
    Memory.readByte_writeByte h1, Memory.readByte_writeByte hm]

/-- The empty memory is in canonical form. -/
theorem Memory.wf_nil : Memory.wf [] = true := rfl

end Sys2Proof.Machine
end

