-- ==== Sys2Proof/Laws/PerInstr.lean ====
section
/-! SUPPORT. Family `EncodingOpcode`: the primary opcode in the encoding of each instruction is the one
R116 gives its row. -/

namespace Sys2Proof.Laws.EncodingOpcode

/-- The primary opcode of an instruction's row (R116). -/
def opcode (i : Instr) : BitVec 6 :=
  match i with
  | .sll .. | .srl .. | .sra .. | .sllv .. | .srlv .. | .srav .. | .jr .. | .jalr ..
  | .syscall | .brk | .mfhi .. | .mthi .. | .mflo .. | .mtlo .. | .mult .. | .multu ..
  | .div .. | .divu .. | .add .. | .addu .. | .sub .. | .subu .. | .and .. | .or ..
  | .xor .. | .nor .. | .slt .. | .sltu .. => 0x00
  | .bltz .. | .bgez .. | .bltzal .. | .bgezal .. => 0x01
  | .j .. => 0x02
  | .jal .. => 0x03
  | .beq .. => 0x04
  | .bne .. => 0x05
  | .blez .. => 0x06
  | .bgtz .. => 0x07
  | .addi .. => 0x08
  | .addiu .. => 0x09
  | .slti .. => 0x0A
  | .sltiu .. => 0x0B
  | .andi .. => 0x0C
  | .ori .. => 0x0D
  | .xori .. => 0x0E
  | .lui .. => 0x0F
  | .mfc0 .. | .mtc0 .. | .rfe | .cop0Reserved .. => 0x10
  | .cop1 => 0x11
  | .mfc2 .. | .cfc2 .. | .mtc2 .. | .ctc2 .. | .cop2Reserved .. | .rtps .. | .nclip
  | .op .. | .dpcs .. | .intpl .. | .mvmva .. | .ncds .. | .cdp .. | .ncdt .. | .nccs ..
  | .cc .. | .ncs .. | .nct .. | .sqr .. | .dcpl .. | .dpct .. | .avsz3 | .avsz4 | .rtpt ..
  | .gpf .. | .gpl .. | .ncct .. | .gteReserved .. => 0x12
  | .cop3 => 0x13
  | .lb .. => 0x20
  | .lh .. => 0x21
  | .lwl .. => 0x22
  | .lw .. => 0x23
  | .lbu .. => 0x24
  | .lhu .. => 0x25
  | .lwr .. => 0x26
  | .sb .. => 0x28
  | .sh .. => 0x29
  | .swl .. => 0x2A
  | .sw .. => 0x2B
  | .swr .. => 0x2E
  | .lwc0 => 0x30
  | .lwc1 => 0x31
  | .lwc2 .. => 0x32
  | .lwc3 => 0x33
  | .swc0 => 0x38
  | .swc1 => 0x39
  | .swc2 .. => 0x3A
  | .swc3 => 0x3B
  | .reserved w => opcodeOf w

/-- The encoding carries the row's opcode. -/
def Statement (i : Instr) : Prop := opcodeOf (encode i) = opcode i

theorem sll (rt rd : RegIdx) (sa : BitVec 5) : Statement (.sll rt rd sa) := opcodeOf_rWord _ _ _ _ _
theorem srl (rt rd : RegIdx) (sa : BitVec 5) : Statement (.srl rt rd sa) := opcodeOf_rWord _ _ _ _ _
theorem sra (rt rd : RegIdx) (sa : BitVec 5) : Statement (.sra rt rd sa) := opcodeOf_rWord _ _ _ _ _
theorem sllv (rs rt rd : RegIdx) : Statement (.sllv rs rt rd) := opcodeOf_rWord _ _ _ _ _
theorem srlv (rs rt rd : RegIdx) : Statement (.srlv rs rt rd) := opcodeOf_rWord _ _ _ _ _
theorem srav (rs rt rd : RegIdx) : Statement (.srav rs rt rd) := opcodeOf_rWord _ _ _ _ _
theorem jr (rs : RegIdx) : Statement (.jr rs) := opcodeOf_rWord _ _ _ _ _
theorem jalr (rs rd : RegIdx) : Statement (.jalr rs rd) := opcodeOf_rWord _ _ _ _ _
theorem syscall : Statement .syscall := opcodeOf_rWord _ _ _ _ _
theorem brk : Statement .brk := opcodeOf_rWord _ _ _ _ _
theorem mfhi (rd : RegIdx) : Statement (.mfhi rd) := opcodeOf_rWord _ _ _ _ _
theorem mthi (rs : RegIdx) : Statement (.mthi rs) := opcodeOf_rWord _ _ _ _ _
theorem mflo (rd : RegIdx) : Statement (.mflo rd) := opcodeOf_rWord _ _ _ _ _
theorem mtlo (rs : RegIdx) : Statement (.mtlo rs) := opcodeOf_rWord _ _ _ _ _
theorem mult (rs rt : RegIdx) : Statement (.mult rs rt) := opcodeOf_rWord _ _ _ _ _
theorem multu (rs rt : RegIdx) : Statement (.multu rs rt) := opcodeOf_rWord _ _ _ _ _
theorem div (rs rt : RegIdx) : Statement (.div rs rt) := opcodeOf_rWord _ _ _ _ _
theorem divu (rs rt : RegIdx) : Statement (.divu rs rt) := opcodeOf_rWord _ _ _ _ _
theorem add (rs rt rd : RegIdx) : Statement (.add rs rt rd) := opcodeOf_rWord _ _ _ _ _
theorem addu (rs rt rd : RegIdx) : Statement (.addu rs rt rd) := opcodeOf_rWord _ _ _ _ _
theorem sub (rs rt rd : RegIdx) : Statement (.sub rs rt rd) := opcodeOf_rWord _ _ _ _ _
theorem subu (rs rt rd : RegIdx) : Statement (.subu rs rt rd) := opcodeOf_rWord _ _ _ _ _
theorem and (rs rt rd : RegIdx) : Statement (.and rs rt rd) := opcodeOf_rWord _ _ _ _ _
theorem or (rs rt rd : RegIdx) : Statement (.or rs rt rd) := opcodeOf_rWord _ _ _ _ _
theorem xor (rs rt rd : RegIdx) : Statement (.xor rs rt rd) := opcodeOf_rWord _ _ _ _ _
theorem nor (rs rt rd : RegIdx) : Statement (.nor rs rt rd) := opcodeOf_rWord _ _ _ _ _
theorem slt (rs rt rd : RegIdx) : Statement (.slt rs rt rd) := opcodeOf_rWord _ _ _ _ _
theorem sltu (rs rt rd : RegIdx) : Statement (.sltu rs rt rd) := opcodeOf_rWord _ _ _ _ _
theorem bltz (rs : RegIdx) (imm : BitVec 16) : Statement (.bltz rs imm) := opcodeOf_iWord _ _ _ _
theorem bgez (rs : RegIdx) (imm : BitVec 16) : Statement (.bgez rs imm) := opcodeOf_iWord _ _ _ _
theorem bltzal (rs : RegIdx) (imm : BitVec 16) : Statement (.bltzal rs imm) :=
  opcodeOf_iWord _ _ _ _
theorem bgezal (rs : RegIdx) (imm : BitVec 16) : Statement (.bgezal rs imm) :=
  opcodeOf_iWord _ _ _ _
theorem j (target : BitVec 26) : Statement (.j target) := opcodeOf_jWord _ _
theorem jal (target : BitVec 26) : Statement (.jal target) := opcodeOf_jWord _ _
theorem beq (rs rt : RegIdx) (imm : BitVec 16) : Statement (.beq rs rt imm) :=
  opcodeOf_iWord _ _ _ _
theorem bne (rs rt : RegIdx) (imm : BitVec 16) : Statement (.bne rs rt imm) :=
  opcodeOf_iWord _ _ _ _
theorem blez (rs : RegIdx) (imm : BitVec 16) : Statement (.blez rs imm) := opcodeOf_iWord _ _ _ _
theorem bgtz (rs : RegIdx) (imm : BitVec 16) : Statement (.bgtz rs imm) := opcodeOf_iWord _ _ _ _
theorem addi (rs rt : RegIdx) (imm : BitVec 16) : Statement (.addi rs rt imm) :=
  opcodeOf_iWord _ _ _ _
theorem addiu (rs rt : RegIdx) (imm : BitVec 16) : Statement (.addiu rs rt imm) :=
  opcodeOf_iWord _ _ _ _
theorem slti (rs rt : RegIdx) (imm : BitVec 16) : Statement (.slti rs rt imm) :=
  opcodeOf_iWord _ _ _ _
theorem sltiu (rs rt : RegIdx) (imm : BitVec 16) : Statement (.sltiu rs rt imm) :=
  opcodeOf_iWord _ _ _ _
theorem andi (rs rt : RegIdx) (imm : BitVec 16) : Statement (.andi rs rt imm) :=
  opcodeOf_iWord _ _ _ _
theorem ori (rs rt : RegIdx) (imm : BitVec 16) : Statement (.ori rs rt imm) :=
  opcodeOf_iWord _ _ _ _
theorem xori (rs rt : RegIdx) (imm : BitVec 16) : Statement (.xori rs rt imm) :=
  opcodeOf_iWord _ _ _ _
theorem lui (rt : RegIdx) (imm : BitVec 16) : Statement (.lui rt imm) := opcodeOf_iWord _ _ _ _
theorem mfc0 (rt rd : RegIdx) : Statement (.mfc0 rt rd) := opcodeOf_crWord _ _ _ _
theorem mtc0 (rt rd : RegIdx) : Statement (.mtc0 rt rd) := opcodeOf_crWord _ _ _ _
theorem rfe : Statement .rfe := opcodeOf_cop0Word _ _
theorem cop0Reserved (rs : BitVec 5) (functor : BitVec 6) : Statement (.cop0Reserved rs functor) :=
  opcodeOf_cop0Word _ _
theorem cop1 : Statement .cop1 := opcodeOf_iWord _ _ _ _
theorem mfc2 (rt rd : RegIdx) : Statement (.mfc2 rt rd) := opcodeOf_crWord _ _ _ _
theorem cfc2 (rt rd : RegIdx) : Statement (.cfc2 rt rd) := opcodeOf_crWord _ _ _ _
theorem mtc2 (rt rd : RegIdx) : Statement (.mtc2 rt rd) := opcodeOf_crWord _ _ _ _
theorem ctc2 (rt rd : RegIdx) : Statement (.ctc2 rt rd) := opcodeOf_crWord _ _ _ _
theorem cop2Reserved (rs : BitVec 5) : Statement (.cop2Reserved rs) := opcodeOf_crWord _ _ _ _
theorem rtps (sf lm : Bool) : Statement (.rtps sf lm) := opcodeOf_gteWord _ _ _ _ _ _
theorem nclip : Statement .nclip := opcodeOf_gteWord _ _ _ _ _ _
theorem op (sf lm : Bool) : Statement (.op sf lm) := opcodeOf_gteWord _ _ _ _ _ _
theorem dpcs (sf lm : Bool) : Statement (.dpcs sf lm) := opcodeOf_gteWord _ _ _ _ _ _
theorem intpl (sf lm : Bool) : Statement (.intpl sf lm) := opcodeOf_gteWord _ _ _ _ _ _
theorem mvmva (sf : Bool) (mx : MatrixSel) (vx : VectorSel) (tx : TranslationSel) (lm : Bool) : Statement (.mvmva sf mx vx tx lm) :=
  opcodeOf_gteWord _ _ _ _ _ _
theorem ncds (sf lm : Bool) : Statement (.ncds sf lm) := opcodeOf_gteWord _ _ _ _ _ _
theorem cdp (sf lm : Bool) : Statement (.cdp sf lm) := opcodeOf_gteWord _ _ _ _ _ _
theorem ncdt (sf lm : Bool) : Statement (.ncdt sf lm) := opcodeOf_gteWord _ _ _ _ _ _
theorem nccs (sf lm : Bool) : Statement (.nccs sf lm) := opcodeOf_gteWord _ _ _ _ _ _
theorem cc (sf lm : Bool) : Statement (.cc sf lm) := opcodeOf_gteWord _ _ _ _ _ _
theorem ncs (sf lm : Bool) : Statement (.ncs sf lm) := opcodeOf_gteWord _ _ _ _ _ _
theorem nct (sf lm : Bool) : Statement (.nct sf lm) := opcodeOf_gteWord _ _ _ _ _ _
theorem sqr (sf lm : Bool) : Statement (.sqr sf lm) := opcodeOf_gteWord _ _ _ _ _ _
theorem dcpl (sf lm : Bool) : Statement (.dcpl sf lm) := opcodeOf_gteWord _ _ _ _ _ _
theorem dpct (sf lm : Bool) : Statement (.dpct sf lm) := opcodeOf_gteWord _ _ _ _ _ _
theorem avsz3 : Statement .avsz3 := opcodeOf_gteWord _ _ _ _ _ _
theorem avsz4 : Statement .avsz4 := opcodeOf_gteWord _ _ _ _ _ _
theorem rtpt (sf lm : Bool) : Statement (.rtpt sf lm) := opcodeOf_gteWord _ _ _ _ _ _
theorem gpf (sf lm : Bool) : Statement (.gpf sf lm) := opcodeOf_gteWord _ _ _ _ _ _
theorem gpl (sf lm : Bool) : Statement (.gpl sf lm) := opcodeOf_gteWord _ _ _ _ _ _
theorem ncct (sf lm : Bool) : Statement (.ncct sf lm) := opcodeOf_gteWord _ _ _ _ _ _
theorem gteReserved (command : BitVec 6) : Statement (.gteReserved command) :=
  opcodeOf_gteWord _ _ _ _ _ _
theorem cop3 : Statement .cop3 := opcodeOf_iWord _ _ _ _
theorem lb (rs rt : RegIdx) (imm : BitVec 16) : Statement (.lb rs rt imm) := opcodeOf_iWord _ _ _ _
theorem lh (rs rt : RegIdx) (imm : BitVec 16) : Statement (.lh rs rt imm) := opcodeOf_iWord _ _ _ _
theorem lwl (rs rt : RegIdx) (imm : BitVec 16) : Statement (.lwl rs rt imm) :=
  opcodeOf_iWord _ _ _ _
theorem lw (rs rt : RegIdx) (imm : BitVec 16) : Statement (.lw rs rt imm) := opcodeOf_iWord _ _ _ _
theorem lbu (rs rt : RegIdx) (imm : BitVec 16) : Statement (.lbu rs rt imm) :=
  opcodeOf_iWord _ _ _ _
theorem lhu (rs rt : RegIdx) (imm : BitVec 16) : Statement (.lhu rs rt imm) :=
  opcodeOf_iWord _ _ _ _
theorem lwr (rs rt : RegIdx) (imm : BitVec 16) : Statement (.lwr rs rt imm) :=
  opcodeOf_iWord _ _ _ _
theorem sb (rs rt : RegIdx) (imm : BitVec 16) : Statement (.sb rs rt imm) := opcodeOf_iWord _ _ _ _
theorem sh (rs rt : RegIdx) (imm : BitVec 16) : Statement (.sh rs rt imm) := opcodeOf_iWord _ _ _ _
theorem swl (rs rt : RegIdx) (imm : BitVec 16) : Statement (.swl rs rt imm) :=
  opcodeOf_iWord _ _ _ _
theorem sw (rs rt : RegIdx) (imm : BitVec 16) : Statement (.sw rs rt imm) := opcodeOf_iWord _ _ _ _
theorem swr (rs rt : RegIdx) (imm : BitVec 16) : Statement (.swr rs rt imm) :=
  opcodeOf_iWord _ _ _ _
theorem lwc0 : Statement .lwc0 := opcodeOf_iWord _ _ _ _
theorem lwc1 : Statement .lwc1 := opcodeOf_iWord _ _ _ _
theorem lwc2 (rs rt : RegIdx) (imm : BitVec 16) : Statement (.lwc2 rs rt imm) :=
  opcodeOf_iWord _ _ _ _
theorem lwc3 : Statement .lwc3 := opcodeOf_iWord _ _ _ _
theorem swc0 : Statement .swc0 := opcodeOf_iWord _ _ _ _
theorem swc1 : Statement .swc1 := opcodeOf_iWord _ _ _ _
theorem swc2 (rs rt : RegIdx) (imm : BitVec 16) : Statement (.swc2 rs rt imm) :=
  opcodeOf_iWord _ _ _ _
theorem swc3 : Statement .swc3 := opcodeOf_iWord _ _ _ _
theorem reserved (word : Word) : Statement (.reserved word) := rfl

end Sys2Proof.Laws.EncodingOpcode
end

