-- ==== Sys2Proof/Machine/Run.lean ====
section
/-! DEFINITION. The end of a run, which 40_step_and_dispatch.md R168 leaves to the model, and the run of
at most a number of steps to that end. No step reads either. -/

namespace Sys2Proof.Machine

/-- A run ends at `stop` when the program counter is there with no branch and no load pending. DESIGN
CHOICE, safe (assumption 31): the instance R168 gives, as the source defines none. -/
def State.atEnd (stop : Word) (s : State) : Bool :=
  s.pc == stop && !s.bdPending && s.ldCur.isNone

/-- How a run of a bounded number of steps comes out. -/
inductive RunResult where
  /-- The run came to its end. -/
  | ended (s : State)
  /-- A step stopped with a fault, the fatal state among them (R149, R168). -/
  | stopped (f : Fault)
  /-- A step was refused; none is. -/
  | refused (r : Refusal)
  /-- The steps the host asked for are used up. -/
  | unfinished (s : State)
  deriving DecidableEq, Repr

/-- The run from `s` to `stop`, of at most `n` steps: the host asks for the steps, and the block has no
halt of its own (R168). -/
def run (stop : Word) : Nat → State → RunResult
  | 0, s => if s.atEnd stop then .ended s else .unfinished s
  | n + 1, s =>
    if s.atEnd stop then .ended s
    else
      match step s with
      | .next t => run stop n t
      | .fault f => .stopped f
      | .refused r => .refused r

end Sys2Proof.Machine
end

