-- ==== Sys2Proof/Laws/Run.lean ====
section
/-! SUPPORT. What a run is: it stays at its end, it goes on by steps, more steps do not change an end it
has come to, and a safe run never stops with a fault. -/

namespace Sys2Proof.Machine

/-- A state is at the end of a run just when R168's three conditions hold. -/
theorem State.atEnd_iff (stop : Word) (s : State) :
    s.atEnd stop = true ↔ s.pc = stop ∧ s.bdPending = false ∧ s.ldCur = none := by
  simp [State.atEnd, and_assoc]

/-- A run that is at its end takes no step. -/
@[simp] theorem run_of_atEnd {stop : Word} {s : State} (h : s.atEnd stop = true) (n : Nat) :
    run stop n s = .ended s := by
  cases n <;> simp [run, h]

/-- A run that is not at its end goes on with a step. -/
theorem run_of_step {stop : Word} {s t : State} (h : s.atEnd stop = false) (hs : step s = .next t)
    (n : Nat) : run stop (n + 1) s = run stop n t := by
  simp [run, h, hs]

/-- Where a run ends it is at its end. -/
theorem atEnd_of_run {stop : Word} {t : State} :
    ∀ {n : Nat} {s : State}, run stop n s = .ended t → t.atEnd stop = true
  | 0, s, h => by
    unfold run at h
    split at h
    · cases h; assumption
    · cases h
  | n + 1, s, h => by
    unfold run at h
    split at h
    · cases h; assumption
    · split at h
      · exact atEnd_of_run h
      · cases h
      · cases h

/-- More steps do not change the end a run has come to. -/
theorem run_more {stop : Word} {t : State} (k : Nat) :
    ∀ {n : Nat} {s : State}, run stop n s = .ended t → run stop (n + k) s = .ended t
  | 0, s, h => by
    unfold run at h
    split at h
    · cases h; exact run_of_atEnd ‹_› _
    · cases h
  | n + 1, s, h => by
    rw [Nat.add_right_comm]
    unfold run at h ⊢
    split at h
    · rwa [if_pos ‹_›]
    · rw [if_neg ‹_›]
      split at h
      · exact run_more k h
      · cases h
      · cases h

/-- A run whose steps all complete never stops with a fault. -/
theorem run_of_safeFor {stop : Word} {f : Fault} :
    ∀ {n : Nat} {s : State}, s.SafeFor n → run stop n s ≠ .stopped f
  | 0, s, _, h => by
    unfold run at h
    split at h <;> cases h
  | n + 1, s, ⟨t, ht, hs⟩, h => by
    unfold run at h
    split at h
    · cases h
    · rw [ht] at h
      exact run_of_safeFor hs h

end Sys2Proof.Machine
end

