-- ==== Sys2Proof/Laws/Step.lean ====
section
/-! SUPPORT. What the phases of a step leave, and everything a step can do. -/

namespace Sys2Proof.Machine

/-! ### The phases that test something -/

@[simp] theorem State.trapIfPending_regs (s : State) :
    (s.trapIfPending).regs = s.regs := by
  unfold State.trapIfPending
  split <;> rfl
@[simp] theorem State.trapIfPending_hi (s : State) :
    (s.trapIfPending).hi = s.hi := by
  unfold State.trapIfPending
  split <;> rfl
@[simp] theorem State.trapIfPending_lo (s : State) :
    (s.trapIfPending).lo = s.lo := by
  unfold State.trapIfPending
  split <;> rfl
@[simp] theorem State.trapIfPending_ldCur (s : State) :
    (s.trapIfPending).ldCur = s.ldCur := by
  unfold State.trapIfPending
  split <;> rfl
@[simp] theorem State.trapIfPending_ldNext (s : State) :
    (s.trapIfPending).ldNext = s.ldNext := by
  unfold State.trapIfPending
  split <;> rfl
@[simp] theorem State.trapIfPending_bdTarget (s : State) :
    (s.trapIfPending).bdTarget = s.bdTarget := by
  unfold State.trapIfPending
  split <;> rfl
@[simp] theorem State.trapIfPending_cycles (s : State) :
    (s.trapIfPending).cycles = s.cycles := by
  unfold State.trapIfPending
  split <;> rfl
@[simp] theorem State.trapIfPending_fatal (s : State) :
    (s.trapIfPending).fatal = s.fatal := by
  unfold State.trapIfPending
  split <;> rfl
@[simp] theorem State.trapIfPending_srWritten (s : State) :
    (s.trapIfPending).srWritten = s.srWritten := by
  unfold State.trapIfPending
  split <;> rfl
@[simp] theorem State.trapIfPending_trapped (s : State) :
    (s.trapIfPending).trapped = s.trapped := by
  unfold State.trapIfPending
  split <;> rfl
@[simp] theorem State.trapIfPending_gte (s : State) :
    (s.trapIfPending).gte = s.gte := by
  unfold State.trapIfPending
  split <;> rfl
@[simp] theorem State.trapIfPending_mem (s : State) :
    (s.trapIfPending).mem = s.mem := by
  unfold State.trapIfPending
  split <;> rfl
@[simp] theorem State.trapIfPending_irqLevels (s : State) :
    (s.trapIfPending).irqLevels = s.irqLevels := by
  unfold State.trapIfPending
  split <;> rfl
@[simp] theorem State.trapIfPending_busCalls (s : State) :
    (s.trapIfPending).busCalls = s.busCalls := by
  unfold State.trapIfPending
  split <;> rfl

@[simp] theorem State.recheckPhase_regs (s : State) :
    (s.recheckPhase).regs = s.regs := by
  unfold State.recheckPhase
  split <;> simp
@[simp] theorem State.recheckPhase_hi (s : State) :
    (s.recheckPhase).hi = s.hi := by
  unfold State.recheckPhase
  split <;> simp
@[simp] theorem State.recheckPhase_lo (s : State) :
    (s.recheckPhase).lo = s.lo := by
  unfold State.recheckPhase
  split <;> simp
@[simp] theorem State.recheckPhase_ldCur (s : State) :
    (s.recheckPhase).ldCur = s.ldCur := by
  unfold State.recheckPhase
  split <;> simp
@[simp] theorem State.recheckPhase_ldNext (s : State) :
    (s.recheckPhase).ldNext = s.ldNext := by
  unfold State.recheckPhase
  split <;> simp
@[simp] theorem State.recheckPhase_bdTarget (s : State) :
    (s.recheckPhase).bdTarget = s.bdTarget := by
  unfold State.recheckPhase
  split <;> simp
@[simp] theorem State.recheckPhase_cycles (s : State) :
    (s.recheckPhase).cycles = s.cycles := by
  unfold State.recheckPhase
  split <;> simp
@[simp] theorem State.recheckPhase_fatal (s : State) :
    (s.recheckPhase).fatal = s.fatal := by
  unfold State.recheckPhase
  split <;> simp
@[simp] theorem State.recheckPhase_srWritten (s : State) :
    (s.recheckPhase).srWritten = s.srWritten := by
  unfold State.recheckPhase
  split <;> simp
@[simp] theorem State.recheckPhase_trapped (s : State) :
    (s.recheckPhase).trapped = s.trapped := by
  unfold State.recheckPhase
  split <;> simp
@[simp] theorem State.recheckPhase_gte (s : State) :
    (s.recheckPhase).gte = s.gte := by
  unfold State.recheckPhase
  split <;> simp
@[simp] theorem State.recheckPhase_mem (s : State) :
    (s.recheckPhase).mem = s.mem := by
  unfold State.recheckPhase
  split <;> simp
@[simp] theorem State.recheckPhase_irqLevels (s : State) :
    (s.recheckPhase).irqLevels = s.irqLevels := by
  unfold State.recheckPhase
  split <;> simp
@[simp] theorem State.recheckPhase_busCalls (s : State) :
    (s.recheckPhase).busCalls = s.busCalls := by
  unfold State.recheckPhase
  split <;> simp

@[simp] theorem State.resolvePhase_regs (s : State) (w : Bool) :
    (s.resolvePhase w).regs = s.regs := by
  unfold State.resolvePhase
  split <;> rfl
@[simp] theorem State.resolvePhase_hi (s : State) (w : Bool) :
    (s.resolvePhase w).hi = s.hi := by
  unfold State.resolvePhase
  split <;> rfl
@[simp] theorem State.resolvePhase_lo (s : State) (w : Bool) :
    (s.resolvePhase w).lo = s.lo := by
  unfold State.resolvePhase
  split <;> rfl
@[simp] theorem State.resolvePhase_ldCur (s : State) (w : Bool) :
    (s.resolvePhase w).ldCur = s.ldCur := by
  unfold State.resolvePhase
  split <;> rfl
@[simp] theorem State.resolvePhase_ldNext (s : State) (w : Bool) :
    (s.resolvePhase w).ldNext = s.ldNext := by
  unfold State.resolvePhase
  split <;> rfl
@[simp] theorem State.resolvePhase_bdTarget (s : State) (w : Bool) :
    (s.resolvePhase w).bdTarget = s.bdTarget := by
  unfold State.resolvePhase
  split <;> rfl
@[simp] theorem State.resolvePhase_cycles (s : State) (w : Bool) :
    (s.resolvePhase w).cycles = s.cycles := by
  unfold State.resolvePhase
  split <;> rfl
@[simp] theorem State.resolvePhase_fatal (s : State) (w : Bool) :
    (s.resolvePhase w).fatal = s.fatal := by
  unfold State.resolvePhase
  split <;> rfl
@[simp] theorem State.resolvePhase_srWritten (s : State) (w : Bool) :
    (s.resolvePhase w).srWritten = s.srWritten := by
  unfold State.resolvePhase
  split <;> rfl
@[simp] theorem State.resolvePhase_trapped (s : State) (w : Bool) :
    (s.resolvePhase w).trapped = s.trapped := by
  unfold State.resolvePhase
  split <;> rfl
@[simp] theorem State.resolvePhase_cop0 (s : State) (w : Bool) :
    (s.resolvePhase w).cop0 = s.cop0 := by
  unfold State.resolvePhase
  split <;> rfl
@[simp] theorem State.resolvePhase_gte (s : State) (w : Bool) :
    (s.resolvePhase w).gte = s.gte := by
  unfold State.resolvePhase
  split <;> rfl
@[simp] theorem State.resolvePhase_mem (s : State) (w : Bool) :
    (s.resolvePhase w).mem = s.mem := by
  unfold State.resolvePhase
  split <;> rfl
@[simp] theorem State.resolvePhase_irqLevels (s : State) (w : Bool) :
    (s.resolvePhase w).irqLevels = s.irqLevels := by
  unfold State.resolvePhase
  split <;> rfl
@[simp] theorem State.resolvePhase_busCalls (s : State) (w : Bool) :
    (s.resolvePhase w).busCalls = s.busCalls := by
  unfold State.resolvePhase
  split <;> rfl

/-! ### Before the fetch -/

@[simp] theorem State.beforeFetch_regs (s : State) :
    (s.beforeFetch).regs = s.regs := by
  simp [State.beforeFetch, State.interruptPhase]
@[simp] theorem State.beforeFetch_hi (s : State) :
    (s.beforeFetch).hi = s.hi := by
  simp [State.beforeFetch, State.interruptPhase]
@[simp] theorem State.beforeFetch_lo (s : State) :
    (s.beforeFetch).lo = s.lo := by
  simp [State.beforeFetch, State.interruptPhase]
@[simp] theorem State.beforeFetch_ldCur (s : State) :
    (s.beforeFetch).ldCur = s.ldCur := by
  simp [State.beforeFetch, State.interruptPhase]
@[simp] theorem State.beforeFetch_ldNext (s : State) :
    (s.beforeFetch).ldNext = s.ldNext := by
  simp [State.beforeFetch, State.interruptPhase]
@[simp] theorem State.beforeFetch_bdTarget (s : State) :
    (s.beforeFetch).bdTarget = s.bdTarget := by
  simp [State.beforeFetch, State.interruptPhase]
@[simp] theorem State.beforeFetch_cycles (s : State) :
    (s.beforeFetch).cycles = s.cycles := by
  simp [State.beforeFetch, State.interruptPhase]
@[simp] theorem State.beforeFetch_fatal (s : State) :
    (s.beforeFetch).fatal = s.fatal := by
  simp [State.beforeFetch, State.interruptPhase]
@[simp] theorem State.beforeFetch_srWritten (s : State) :
    (s.beforeFetch).srWritten = false := by
  simp [State.beforeFetch, State.interruptPhase]
@[simp] theorem State.beforeFetch_trapped (s : State) :
    (s.beforeFetch).trapped = false := by
  simp [State.beforeFetch, State.interruptPhase]
@[simp] theorem State.beforeFetch_gte (s : State) :
    (s.beforeFetch).gte = s.gte := by
  simp [State.beforeFetch, State.interruptPhase]
@[simp] theorem State.beforeFetch_mem (s : State) :
    (s.beforeFetch).mem = s.mem := by
  simp [State.beforeFetch, State.interruptPhase]
@[simp] theorem State.beforeFetch_irqLevels (s : State) :
    (s.beforeFetch).irqLevels = s.irqLevels.tail := by
  simp [State.beforeFetch, State.interruptPhase]
@[simp] theorem State.beforeFetch_busCalls (s : State) :
    (s.beforeFetch).busCalls = [] := by
  simp [State.beforeFetch, State.interruptPhase]

/-! ### After the instruction -/

@[simp] theorem State.endStep_regs (s : State) (w : Bool) :
    (s.endStep w).regs = s.commitPhase.regs := by
  simp [State.endStep]
@[simp] theorem State.endStep_hi (s : State) (w : Bool) :
    (s.endStep w).hi = s.hi := by
  simp [State.endStep]
@[simp] theorem State.endStep_lo (s : State) (w : Bool) :
    (s.endStep w).lo = s.lo := by
  simp [State.endStep]
@[simp] theorem State.endStep_ldCur (s : State) (w : Bool) :
    (s.endStep w).ldCur = s.ldNext := by
  simp [State.endStep]
@[simp] theorem State.endStep_ldNext (s : State) (w : Bool) :
    (s.endStep w).ldNext = none := by
  simp [State.endStep]
@[simp] theorem State.endStep_bdTarget (s : State) (w : Bool) :
    (s.endStep w).bdTarget = s.bdTarget := by
  simp [State.endStep]
@[simp] theorem State.endStep_cycles (s : State) (w : Bool) :
    (s.endStep w).cycles = s.cycles + 1 := by
  simp [State.endStep]
@[simp] theorem State.endStep_fatal (s : State) (w : Bool) :
    (s.endStep w).fatal = s.fatal := by
  simp [State.endStep]
@[simp] theorem State.endStep_srWritten (s : State) (w : Bool) :
    (s.endStep w).srWritten = s.srWritten := by
  simp [State.endStep]
@[simp] theorem State.endStep_trapped (s : State) (w : Bool) :
    (s.endStep w).trapped = s.trapped := by
  simp [State.endStep]
@[simp] theorem State.endStep_gte (s : State) (w : Bool) :
    (s.endStep w).gte = s.gte := by
  simp [State.endStep]
@[simp] theorem State.endStep_mem (s : State) (w : Bool) :
    (s.endStep w).mem = s.mem := by
  simp [State.endStep]
@[simp] theorem State.endStep_irqLevels (s : State) (w : Bool) :
    (s.endStep w).irqLevels = s.irqLevels := by
  simp [State.endStep]
@[simp] theorem State.endStep_busCalls (s : State) (w : Bool) :
    (s.endStep w).busCalls = s.busCalls := by
  simp [State.endStep]

/-- Where the step wrote no SR, no interrupt is taken at its end. -/
theorem State.endStep_cop0 (s : State) (w : Bool) (h : s.srWritten = false) :
    (s.endStep w).cop0 = s.cop0 := by
  simp [State.endStep, State.recheckPhase, h]

/-- Trap entry leaves what no trap writes, whether or not it is taken. -/
theorem State.trapIfPending_cases (s : State) :
    (s.interruptPending = true ∧ s.trapIfPending = s.takeTrap .interrupt) ∨
    (s.interruptPending = false ∧ s.trapIfPending = s) := by
  cases h : s.interruptPending <;> simp [State.trapIfPending, h]

/-- Everything a step that completes can be. -/
theorem step_next_cases {s t : State} (h : step s = .next t) :
    s.fatal = false ∧
    ((misalignedWord s.beforeFetch.pc = true ∧
        t = (s.beforeFetch.raised (.adel s.beforeFetch.pc)).endStep false) ∨
      (misalignedWord s.beforeFetch.pc = false ∧
        ∃ u, exec (decode s.beforeFetch.fetchWord) s.beforeFetch.noteFetch = .next u ∧
          t = u.endStep s.beforeFetch.bdPending)) := by
  unfold step at h
  cases hf : s.fatal
  · rw [hf, if_neg Bool.false_ne_true] at h
    refine ⟨rfl, ?_⟩
    cases hm : misalignedWord s.beforeFetch.pc
    · rw [hm, if_neg Bool.false_ne_true] at h
      refine .inr ⟨rfl, ?_⟩
      cases he : exec (decode s.beforeFetch.fetchWord) s.beforeFetch.noteFetch with
      | next u =>
        rw [he] at h
        exact ⟨u, rfl, (Host.Outcome.next.inj h).symm⟩
      | fault f => rw [he] at h; cases h
      | refused r => rw [he] at h; cases h
    · rw [hm, if_pos rfl] at h
      exact .inl ⟨rfl, (Host.Outcome.next.inj h).symm⟩
  · rw [hf, if_pos rfl] at h
    cases h

end Sys2Proof.Machine
end

