-- ==== Sys2Proof/Tests/Slice0.lean ====
section
/-! SUPPORT. Tests: ill-formed terms, words of the opcode table, single steps of the vectors of
95_test_vectors.md and 96_test_vectors_sequences_gte.md, and, for every obligation with hypotheses,
values that meet them. Every expected value is the spec's. -/

namespace Sys2Proof.Tests

set_option Elab.async false

open Sys2Proof.Machine

/-! ### WellFormed refuses an ill-formed term of each checked row -/

/-- The row COP0.reserved may not hold MFC0's `rs`, nor RFE's functor with bit 25 set (R119). -/
theorem test_wf_cop0Reserved :
    ¬(Instr.cop0Reserved 0x00 0x00).WellFormed ∧ ¬(Instr.cop0Reserved 0x04 0x3F).WellFormed ∧
      ¬(Instr.cop0Reserved 0x10 0x10).WellFormed ∧ (Instr.cop0Reserved 0x10 0x11).WellFormed := by
  decide +kernel

/-- The row COP2.reserved may not hold a move's `rs`, nor one with bit 25 set (R120). -/
theorem test_wf_cop2Reserved :
    ¬(Instr.cop2Reserved 0x06).WellFormed ∧ ¬(Instr.cop2Reserved 0x10).WellFormed ∧
      (Instr.cop2Reserved 0x01).WellFormed := by decide +kernel

/-- The row COP2.GTE.reserved may not hold a command of R121. -/
theorem test_wf_gteReserved :
    ¬(Instr.gteReserved 0x01).WellFormed ∧ ¬(Instr.gteReserved 0x3F).WellFormed ∧
      (Instr.gteReserved 0x3C).WellFormed := by decide +kernel

/-- The row RESERVED may not hold a word of another row (R130). -/
theorem test_wf_reserved :
    ¬(Instr.reserved 0x00221820).WellFormed ∧ ¬(Instr.reserved 0x04110000).WellFormed ∧
      ¬(Instr.reserved 0x42000001).WellFormed ∧ (Instr.reserved 0xFC000000).WellFormed := by
  decide +kernel

/-! ### Decoding

The words are the `match` of each row of opcode_table.json with its fields filled in, and with a 1 in
every bit the row ignores. -/

/-- Opcode 0 (R117). -/
theorem test_decode_special_1 :
    decode 0b000000_11111_00010_00011_00100_000000 = .sll 2 3 4 ∧
    decode 0b000000_11111_00010_00011_00100_000010 = .srl 2 3 4 ∧
    decode 0b000000_11111_00010_00011_00100_000011 = .sra 2 3 4 ∧
    decode 0b000000_00001_00010_00011_11111_000100 = .sllv 1 2 3 ∧
    decode 0b000000_00001_00010_00011_11111_000110 = .srlv 1 2 3 ∧
    decode 0b000000_00001_00010_00011_11111_000111 = .srav 1 2 3 ∧
    decode 0b000000_00001_11111_11111_11111_001000 = .jr 1 ∧
    decode 0b000000_00001_11111_00011_11111_001001 = .jalr 1 3 ∧
    decode 0b000000_11111_11111_11111_11111_001100 = .syscall ∧
    decode 0b000000_11111_11111_11111_11111_001101 = .brk := by
  decide +kernel

/-- Opcode 0 (R117). -/
theorem test_decode_special_2 :
    decode 0b000000_11111_11111_00011_11111_010000 = .mfhi 3 ∧
    decode 0b000000_00001_11111_11111_11111_010001 = .mthi 1 ∧
    decode 0b000000_11111_11111_00011_11111_010010 = .mflo 3 ∧
    decode 0b000000_00001_11111_11111_11111_010011 = .mtlo 1 ∧
    decode 0b000000_00001_00010_11111_11111_011000 = .mult 1 2 ∧
    decode 0b000000_00001_00010_11111_11111_011001 = .multu 1 2 ∧
    decode 0b000000_00001_00010_11111_11111_011010 = .div 1 2 ∧
    decode 0b000000_00001_00010_11111_11111_011011 = .divu 1 2 ∧
    decode 0b000000_00001_00010_00011_11111_100000 = .add 1 2 3 ∧
    decode 0b000000_00001_00010_00011_11111_100001 = .addu 1 2 3 := by
  decide +kernel

/-- Opcode 0 (R117). -/
theorem test_decode_special_3 :
    decode 0b000000_00001_00010_00011_11111_100010 = .sub 1 2 3 ∧
    decode 0b000000_00001_00010_00011_11111_100011 = .subu 1 2 3 ∧
    decode 0b000000_00001_00010_00011_11111_100100 = .and 1 2 3 ∧
    decode 0b000000_00001_00010_00011_11111_100101 = .or 1 2 3 ∧
    decode 0b000000_00001_00010_00011_11111_100110 = .xor 1 2 3 ∧
    decode 0b000000_00001_00010_00011_11111_100111 = .nor 1 2 3 ∧
    decode 0b000000_00001_00010_00011_11111_101010 = .slt 1 2 3 ∧
    decode 0b000000_00001_00010_00011_11111_101011 = .sltu 1 2 3 := by
  decide +kernel

/-- Opcode 1 (R118). -/
theorem test_decode_regimm :
    decode 0b000001_00001_00000_1000000000000101 = .bltz 1 0x8005 ∧
    decode 0b000001_00001_00001_1000000000000101 = .bgez 1 0x8005 ∧
    decode 0b000001_00001_10000_1000000000000101 = .bltzal 1 0x8005 ∧
    decode 0b000001_00001_10001_1000000000000101 = .bgezal 1 0x8005 := by
  decide +kernel

/-- The primary map (R116). -/
theorem test_decode_immediate_1 :
    decode 0b000010_10101010111100110111101111 = .j 0x2abcdef ∧
    decode 0b000011_10101010111100110111101111 = .jal 0x2abcdef ∧
    decode 0b000100_00001_00010_1000000000000101 = .beq 1 2 0x8005 ∧
    decode 0b000101_00001_00010_1000000000000101 = .bne 1 2 0x8005 ∧
    decode 0b000110_00001_11111_1000000000000101 = .blez 1 0x8005 ∧
    decode 0b000111_00001_11111_1000000000000101 = .bgtz 1 0x8005 ∧
    decode 0b001000_00001_00010_1000000000000101 = .addi 1 2 0x8005 ∧
    decode 0b001001_00001_00010_1000000000000101 = .addiu 1 2 0x8005 ∧
    decode 0b001010_00001_00010_1000000000000101 = .slti 1 2 0x8005 ∧
    decode 0b001011_00001_00010_1000000000000101 = .sltiu 1 2 0x8005 := by
  decide +kernel

/-- The primary map (R116). -/
theorem test_decode_immediate_2 :
    decode 0b001100_00001_00010_1000000000000101 = .andi 1 2 0x8005 ∧
    decode 0b001101_00001_00010_1000000000000101 = .ori 1 2 0x8005 ∧
    decode 0b001110_00001_00010_1000000000000101 = .xori 1 2 0x8005 ∧
    decode 0b001111_11111_00010_1000000000000101 = .lui 2 0x8005 ∧
    decode 0b010001_11111_11111_1111111111111111 = .cop1 ∧
    decode 0b010011_11111_11111_1111111111111111 = .cop3 := by
  decide +kernel

/-- Coprocessor words (R119, R120). -/
theorem test_decode_coprocessor_1 :
    decode 0b010000_00000_00010_00011_11111111111 = .mfc0 2 3 ∧
    decode 0b010000_00100_00010_00011_11111111111 = .mtc0 2 3 ∧
    decode 0b010000_01000_00000_00000_00000000000 = .cop0Reserved 8 0 ∧
    decode 0b010000_10000_00000_00000_00000000001 = .cop0Reserved 16 1 ∧
    decode 0b010000_11111_00000_00000_00000111111 = .cop0Reserved 31 63 ∧
    decode 0b010010_00000_00010_00011_11111111111 = .mfc2 2 3 ∧
    decode 0b010010_00010_00010_00011_11111111111 = .cfc2 2 3 ∧
    decode 0b010010_00100_00010_00011_11111111111 = .mtc2 2 3 ∧
    decode 0b010010_00110_00010_00011_11111111111 = .ctc2 2 3 ∧
    decode 0b010010_01000_00000_00000_00000000000 = .cop2Reserved 8 := by
  decide +kernel

/-- Coprocessor words (R119, R120). -/
theorem test_decode_coprocessor_2 :
    decode 0b010010_00001_00000_00000_00000000000 = .cop2Reserved 1 := by
  decide +kernel

/-- GTE commands (R121), each with `sf` and `lm` both ways. -/
theorem test_decode_gte_1 :
    decode 0b010000_1_11111_1_11_11_11_11_1_1111_010000 = .rfe ∧
    decode 0b010010_1_11111_1_11_11_11_11_0_1111_000001 = .rtps true false ∧
    decode 0b010010_1_11111_0_11_11_11_11_1_1111_000001 = .rtps false true ∧
    decode 0b010010_1_11111_1_11_11_11_11_1_1111_000110 = .nclip ∧
    decode 0b010010_1_11111_1_11_11_11_11_0_1111_001100 = .op true false ∧
    decode 0b010010_1_11111_0_11_11_11_11_1_1111_001100 = .op false true ∧
    decode 0b010010_1_11111_1_11_11_11_11_0_1111_010000 = .dpcs true false ∧
    decode 0b010010_1_11111_0_11_11_11_11_1_1111_010000 = .dpcs false true ∧
    decode 0b010010_1_11111_1_11_11_11_11_0_1111_010001 = .intpl true false ∧
    decode 0b010010_1_11111_0_11_11_11_11_1_1111_010001 = .intpl false true := by
  decide +kernel

/-- GTE commands (R121), each with `sf` and `lm` both ways. -/
theorem test_decode_gte_2 :
    decode 0b010010_1_11111_1_01_11_01_11_0_1111_010010 = .mvmva true .llm .ir .bk false ∧
    decode 0b010010_1_11111_0_01_11_01_11_1_1111_010010 = .mvmva false .llm .ir .bk true ∧
    decode 0b010010_1_11111_1_11_11_11_11_0_1111_010011 = .ncds true false ∧
    decode 0b010010_1_11111_0_11_11_11_11_1_1111_010011 = .ncds false true ∧
    decode 0b010010_1_11111_1_11_11_11_11_0_1111_010100 = .cdp true false ∧
    decode 0b010010_1_11111_0_11_11_11_11_1_1111_010100 = .cdp false true ∧
    decode 0b010010_1_11111_1_11_11_11_11_0_1111_010110 = .ncdt true false ∧
    decode 0b010010_1_11111_0_11_11_11_11_1_1111_010110 = .ncdt false true ∧
    decode 0b010010_1_11111_1_11_11_11_11_0_1111_011011 = .nccs true false ∧
    decode 0b010010_1_11111_0_11_11_11_11_1_1111_011011 = .nccs false true := by
  decide +kernel

/-- GTE commands (R121), each with `sf` and `lm` both ways. -/
theorem test_decode_gte_3 :
    decode 0b010010_1_11111_1_11_11_11_11_0_1111_011100 = .cc true false ∧
    decode 0b010010_1_11111_0_11_11_11_11_1_1111_011100 = .cc false true ∧
    decode 0b010010_1_11111_1_11_11_11_11_0_1111_011110 = .ncs true false ∧
    decode 0b010010_1_11111_0_11_11_11_11_1_1111_011110 = .ncs false true ∧
    decode 0b010010_1_11111_1_11_11_11_11_0_1111_100000 = .nct true false ∧
    decode 0b010010_1_11111_0_11_11_11_11_1_1111_100000 = .nct false true ∧
    decode 0b010010_1_11111_1_11_11_11_11_0_1111_101000 = .sqr true false ∧
    decode 0b010010_1_11111_0_11_11_11_11_1_1111_101000 = .sqr false true ∧
    decode 0b010010_1_11111_1_11_11_11_11_0_1111_101001 = .dcpl true false ∧
    decode 0b010010_1_11111_0_11_11_11_11_1_1111_101001 = .dcpl false true := by
  decide +kernel

/-- GTE commands (R121), each with `sf` and `lm` both ways. -/
theorem test_decode_gte_4 :
    decode 0b010010_1_11111_1_11_11_11_11_0_1111_101010 = .dpct true false ∧
    decode 0b010010_1_11111_0_11_11_11_11_1_1111_101010 = .dpct false true ∧
    decode 0b010010_1_11111_1_11_11_11_11_1_1111_101101 = .avsz3 ∧
    decode 0b010010_1_11111_1_11_11_11_11_1_1111_101110 = .avsz4 ∧
    decode 0b010010_1_11111_1_11_11_11_11_0_1111_110000 = .rtpt true false ∧
    decode 0b010010_1_11111_0_11_11_11_11_1_1111_110000 = .rtpt false true ∧
    decode 0b010010_1_11111_1_11_11_11_11_0_1111_111101 = .gpf true false ∧
    decode 0b010010_1_11111_0_11_11_11_11_1_1111_111101 = .gpf false true ∧
    decode 0b010010_1_11111_1_11_11_11_11_0_1111_111110 = .gpl true false ∧
    decode 0b010010_1_11111_0_11_11_11_11_1_1111_111110 = .gpl false true := by
  decide +kernel

/-- GTE commands (R121), each with `sf` and `lm` both ways. -/
theorem test_decode_gte_5 :
    decode 0b010010_1_11111_1_11_11_11_11_0_1111_111111 = .ncct true false ∧
    decode 0b010010_1_11111_0_11_11_11_11_1_1111_111111 = .ncct false true := by
  decide +kernel

/-- Reserved words (R130, R133). -/
theorem test_decode_reserved_1 :
    decode 0b010010_1_00000_0_00_00_00_00_0_0000_000000 = .gteReserved 0 ∧
    decode 0b010010_1_00000_0_00_00_00_00_0_0000_000010 = .gteReserved 2 ∧
    decode 0b010010_1_00000_0_00_00_00_00_0_0000_101011 = .gteReserved 43 ∧
    decode 0b010010_1_00000_0_00_00_00_00_0_0000_111100 = .gteReserved 60 ∧
    decode 0x50000000 = .reserved 0x50000000 ∧
    decode 0x7FFFFFFF = .reserved 0x7FFFFFFF ∧
    decode 0x9C000000 = .reserved 0x9C000000 ∧
    decode 0xB0000000 = .reserved 0xB0000000 ∧
    decode 0xFFFFFFFF = .reserved 0xFFFFFFFF ∧
    decode 0x00000001 = .reserved 0x00000001 := by
  decide +kernel

/-- Reserved words (R130, R133). -/
theorem test_decode_reserved_2 :
    decode 0x0000003F = .reserved 0x0000003F ∧
    decode 0x00000014 = .reserved 0x00000014 ∧
    decode 0x04020000 = .reserved 0x04020000 ∧
    decode 0x07FFFFFF = .reserved 0x07FFFFFF := by
  decide +kernel

/-- Loads and stores (R116). -/
theorem test_decode_memory_1 :
    decode 0b100000_00001_00010_1000000000000101 = .lb 1 2 0x8005 ∧
    decode 0b100001_00001_00010_1000000000000101 = .lh 1 2 0x8005 ∧
    decode 0b100010_00001_00010_1000000000000101 = .lwl 1 2 0x8005 ∧
    decode 0b100011_00001_00010_1000000000000101 = .lw 1 2 0x8005 ∧
    decode 0b100100_00001_00010_1000000000000101 = .lbu 1 2 0x8005 ∧
    decode 0b100101_00001_00010_1000000000000101 = .lhu 1 2 0x8005 ∧
    decode 0b100110_00001_00010_1000000000000101 = .lwr 1 2 0x8005 ∧
    decode 0b101000_00001_00010_1000000000000101 = .sb 1 2 0x8005 ∧
    decode 0b101001_00001_00010_1000000000000101 = .sh 1 2 0x8005 ∧
    decode 0b101010_00001_00010_1000000000000101 = .swl 1 2 0x8005 := by
  decide +kernel

/-- Loads and stores (R116). -/
theorem test_decode_memory_2 :
    decode 0b101011_00001_00010_1000000000000101 = .sw 1 2 0x8005 ∧
    decode 0b101110_00001_00010_1000000000000101 = .swr 1 2 0x8005 := by
  decide +kernel

/-- Coprocessor loads and stores (R116). -/
theorem test_decode_copmemory :
    decode 0b110000_11111_11111_1111111111111111 = .lwc0 ∧
    decode 0b110001_11111_11111_1111111111111111 = .lwc1 ∧
    decode 0b110010_00001_00010_1000000000000101 = .lwc2 1 2 0x8005 ∧
    decode 0b110011_11111_11111_1111111111111111 = .lwc3 ∧
    decode 0b111000_11111_11111_1111111111111111 = .swc0 ∧
    decode 0b111001_11111_11111_1111111111111111 = .swc1 ∧
    decode 0b111010_00001_00010_1000000000000101 = .swc2 1 2 0x8005 ∧
    decode 0b111011_11111_11111_1111111111111111 = .swc3 := by
  decide +kernel

/-- A decoded table word: the word 0x8C22FFFC of property 9, and a byte string that is too short. -/
theorem test_decode_table :
    decodeTableWord 32 0x8C22FFFC = some (.lw 1 2 0xFFFC) ∧
      decodeBytes [0xFC, 0xFF, 0x22, 0x8C, 0x01] = .ok (.lw 1 2 0xFFFC, [0x01]) ∧
      decodeBytes [0xFC, 0xFF, 0x22] = .error .truncated := by decide +kernel

/-! ### Single steps

The start state is the one of the conventions of 95_test_vectors.md. -/

/-- The start state: `w` at the program counter 0x80010000, SR as given, the listed registers. -/
def start (w : Word) (sr : Word) (regs : List (RegIdx × Word)) : State :=
  { State.reset with
    pc := 0x80010000
    cop0 := { Cop0.reset with sr := sr }
    regs := regs.foldl (fun v p => putReg v p.1 p.2) State.reset.regs
    mem := ((State.reset.mem.writeWord 0x80001000 0x44332211).writeWord 0x80001004
      0x88776655).writeWord 0x80010000 w }

/-- The step of `s` completes in a state with `p`. -/
def answers (s : State) (p : State → Bool) : Bool :=
  match step s with
  | .next t => p t
  | .fault _ => false
  | .refused _ => false

/-- The step of `s` stops with the fault `f`. -/
def stops (s : State) (f : Fault) : Bool :=
  match step s with
  | .next _ => false
  | .fault g => g == f
  | .refused _ => false

/-- What `answers` says. -/
theorem of_answers {s : State} {p : State → Bool} (h : answers s p = true) :
    ∃ t, step s = .next t ∧ p t = true := by
  unfold answers at h
  cases hs : step s with
  | next t => rw [hs] at h; exact ⟨t, rfl, h⟩
  | fault f => rw [hs] at h; cases h
  | refused r => rw [hs] at h; cases h

/-- `sll $3,$1,4`, vectors 2.1, R196. -/
theorem test_sll :
    answers (start 0x00011900 0x40000000 [(1, 0xF000000F)])
      (fun t => t.readReg 3 == 0xF0 && t.pc == 0x80010004) = true := by decide +kernel

/-- `srl $3,$1,4`, vectors 2.1, R197. -/
theorem test_srl :
    answers (start 0x00011902 0x40000000 [(1, 0xF000000F)])
      (fun t => t.readReg 3 == 0xF000000 && t.pc == 0x80010004) = true := by decide +kernel

/-- `sra $3,$1,4`, vectors 2.1, R198. -/
theorem test_sra :
    answers (start 0x00011903 0x40000000 [(1, 0xF000000F)])
      (fun t => t.readReg 3 == 0xFF000000 && t.pc == 0x80010004) = true := by decide +kernel

/-- `sllv $3,$1,$2`, vectors 2.1, R199. -/
theorem test_sllv :
    answers (start 0x00411804 0x40000000 [(1, 0x1), (2, 0x21)])
      (fun t => t.readReg 3 == 0x2 && t.pc == 0x80010004) = true := by decide +kernel

/-- `srlv $3,$1,$2`, vectors 2.1, R200. -/
theorem test_srlv :
    answers (start 0x00411806 0x40000000 [(1, 0x80000000), (2, 0xFFFFFFFF)])
      (fun t => t.readReg 3 == 0x1 && t.pc == 0x80010004) = true := by decide +kernel

/-- `srav $3,$1,$2`, vectors 2.1, R201. -/
theorem test_srav :
    answers (start 0x00411807 0x40000000 [(1, 0x80000000), (2, 0x24)])
      (fun t => t.readReg 3 == 0xF8000000 && t.pc == 0x80010004) = true := by decide +kernel

/-- `jr $1`, vectors 2.3, R243. -/
theorem test_jr_1 :
    answers (start 0x00200008 0x40000000 [(1, 0x80030000)])
      (fun t => t.bdPending && t.bdTarget == 0x80030000 &&
        t.pc == 0x80010004) = true := by decide +kernel

/-- `jr $1`, vectors 2.3, R243. -/
theorem test_jr_2 :
    answers (start 0x00200008 0x40000000 [(1, 0x80030002)])
      (fun t => t.bdPending && t.bdTarget == 0x80030002 &&
        t.pc == 0x80010004) = true := by decide +kernel

/-- `jalr $31,$1`, vectors 2.3, R244. -/
theorem test_jalr_1 :
    answers (start 0x0020F809 0x40000000 [(1, 0x80030000)])
      (fun t => t.readReg 31 == 0x80010008 && t.bdPending && t.bdTarget == 0x80030000 &&
        t.pc == 0x80010004) = true := by decide +kernel

/-- `jalr $0,$1`, vectors 2.3, R244. -/
theorem test_jalr_2 :
    answers (start 0x00200009 0x40000000 [(1, 0x80030000)])
      (fun t => t.readReg 0 == 0x0 && t.bdPending && t.bdTarget == 0x80030000 &&
        t.pc == 0x80010004) = true := by decide +kernel

/-- `syscall (bits 25:6 all ones)`, vectors 2.6, R301. -/
theorem test_syscall :
    answers (start 0x03FFFFCC 0x40000003 [])
      (fun t => t.pc == 0x80000080 && t.cop0.cause == 0x20 && t.cop0.epc == 0x80010000 &&
        t.cop0.sr == 0x4000000C) = true := by decide +kernel

/-- `break`, vectors 2.6, R302. -/
theorem test_brk :
    answers (start 0x0000000D 0x400001 [])
      (fun t => t.pc == 0xBFC00180 && t.cop0.cause == 0x24 && t.cop0.epc == 0x80010000 &&
        t.cop0.sr == 0x400004) = true := by decide +kernel

/-- `mfhi $3`, vectors 2.2, R225. -/
theorem test_mfhi :
    answers { start 0x00001810 0x40000000 [] with hi := 0x11111111, lo := 0x22222222 }
      (fun t => t.readReg 3 == 0x11111111 && t.pc == 0x80010004) = true := by decide +kernel

/-- `mthi $1`, vectors 2.2, R227. -/
theorem test_mthi :
    answers { start 0x00200011 0x40000000 [(1, 0xDEADBEEF)] with hi := 0x11111111, lo := 0x22222222 }
      (fun t => t.hi == 0xDEADBEEF && t.lo == 0x22222222 &&
        t.pc == 0x80010004) = true := by decide +kernel

/-- `mflo $3`, vectors 2.2, R226. -/
theorem test_mflo :
    answers { start 0x00001812 0x40000000 [] with hi := 0x11111111, lo := 0x22222222 }
      (fun t => t.readReg 3 == 0x22222222 && t.pc == 0x80010004) = true := by decide +kernel

/-- `mtlo $1`, vectors 2.2, R228. -/
theorem test_mtlo :
    answers { start 0x00200013 0x40000000 [(1, 0xDEADBEEF)] with hi := 0x11111111, lo := 0x22222222 }
      (fun t => t.hi == 0x11111111 && t.lo == 0xDEADBEEF &&
        t.pc == 0x80010004) = true := by decide +kernel

/-- `mult $1,$2`, vectors 2.2, R221. -/
theorem test_mult_1 :
    answers (start 0x00220018 0x40000000 [(1, 0x80000000), (2, 0x7FFFFFFF)])
      (fun t => t.hi == 0xC0000000 && t.lo == 0x80000000 &&
        t.pc == 0x80010004) = true := by decide +kernel

/-- `mult $1,$2`, vectors 2.2, R221. -/
theorem test_mult_2 :
    answers (start 0x00220018 0x40000000 [(1, 0x10000), (2, 0xFFFF0000)])
      (fun t => t.hi == 0xFFFFFFFF && t.lo == 0x0 && t.pc == 0x80010004) = true := by decide +kernel

/-- `multu $1,$2`, vectors 2.2, R222. -/
theorem test_multu_1 :
    answers (start 0x00220019 0x40000000 [(1, 0xFFFFFFFF), (2, 0xFFFFFFFF)])
      (fun t => t.hi == 0xFFFFFFFE && t.lo == 0x1 && t.pc == 0x80010004) = true := by decide +kernel

/-- `multu $1,$2`, vectors 2.2, R222. -/
theorem test_multu_2 :
    answers (start 0x00220019 0x40000000 [(1, 0x10000), (2, 0xFFFF0000)])
      (fun t => t.hi == 0xFFFF && t.lo == 0x0 && t.pc == 0x80010004) = true := by decide +kernel

/-- `div $1,$2`, vectors 2.2, R223. -/
theorem test_div_1 :
    answers (start 0x0022001A 0x40000000 [(1, 0xFFFFFFF9), (2, 0x2)])
      (fun t => t.hi == 0xFFFFFFFF && t.lo == 0xFFFFFFFD &&
        t.pc == 0x80010004) = true := by decide +kernel

/-- `div $1,$2`, vectors 2.2, R223, D23. -/
theorem test_div_2 :
    answers (start 0x0022001A 0x40000000 [(1, 0x80000000), (2, 0xFFFFFFFF)])
      (fun t => t.hi == 0x0 && t.lo == 0x80000000 && t.pc == 0x80010004) = true := by decide +kernel

/-- `divu $1,$2`, vectors 2.2, R224. -/
theorem test_divu_1 :
    answers (start 0x0022001B 0x40000000 [(1, 0xFFFFFFF9), (2, 0x2)])
      (fun t => t.hi == 0x1 && t.lo == 0x7FFFFFFC && t.pc == 0x80010004) = true := by decide +kernel

/-- `divu $1,$2`, vectors 2.2, R224, D23. -/
theorem test_divu_2 :
    answers (start 0x0022001B 0x40000000 [(1, 0xFFFFFFF9), (2, 0x0)])
      (fun t => t.hi == 0xFFFFFFF9 && t.lo == 0xFFFFFFFF &&
        t.pc == 0x80010004) = true := by decide +kernel

/-- `add $3,$1,$2`, vectors 2.1, R182. -/
theorem test_add_1 :
    answers (start 0x00221820 0x40000000 [(1, 0x7FFFFFFF), (2, 0x1), (3, 0xAA)])
      (fun t => t.readReg 3 == 0xAA && t.pc == 0x80000080 && t.cop0.cause == 0x30 &&
        t.cop0.epc == 0x80010000 && t.cop0.sr == 0x40000000) = true := by decide +kernel

/-- `add $3,$1,$2`, vectors 2.1, R182. -/
theorem test_add_2 :
    answers (start 0x00221820 0x40000000 [(1, 0x7FFFFFFF), (2, 0xFFFFFFFF), (3, 0xAA)])
      (fun t => t.readReg 3 == 0x7FFFFFFE && t.pc == 0x80010004) = true := by decide +kernel

/-- `addu $3,$1,$2`, vectors 2.1, R183. -/
theorem test_addu_1 :
    answers (start 0x00221821 0x40000000 [(1, 0x7FFFFFFF), (2, 0x1)])
      (fun t => t.readReg 3 == 0x80000000 && t.pc == 0x80010004) = true := by decide +kernel

/-- `addu $3,$1,$2`, vectors 2.1, R183. -/
theorem test_addu_2 :
    answers (start 0x00221821 0x40000000 [(1, 0xFFFFFFFF), (2, 0x1)])
      (fun t => t.readReg 3 == 0x0 && t.pc == 0x80010004) = true := by decide +kernel

/-- `sub $3,$1,$2`, vectors 2.1, R184. -/
theorem test_sub_1 :
    answers (start 0x00221822 0x40000000 [(1, 0x5), (2, 0x7)])
      (fun t => t.readReg 3 == 0xFFFFFFFE && t.pc == 0x80010004) = true := by decide +kernel

/-- `sub $3,$1,$2`, vectors 2.1, R184. -/
theorem test_sub_2 :
    answers (start 0x00221822 0x40000000 [(1, 0x0), (2, 0x80000000), (3, 0xAA)])
      (fun t => t.readReg 3 == 0xAA && t.pc == 0x80000080 &&
        t.cop0.cause == 0x30) = true := by decide +kernel

/-- `subu $3,$1,$2`, vectors 2.1, R185. -/
theorem test_subu :
    answers (start 0x00221823 0x40000000 [(1, 0x0), (2, 0x1)])
      (fun t => t.readReg 3 == 0xFFFFFFFF && t.pc == 0x80010004) = true := by decide +kernel

/-- `and $3,$1,$2`, vectors 2.1, R188. -/
theorem test_and :
    answers (start 0x00221824 0x40000000 [(1, 0xFF00FF00), (2, 0xFF00FF0)])
      (fun t => t.readReg 3 == 0xF000F00 && t.pc == 0x80010004) = true := by decide +kernel

/-- `or $3,$1,$2`, vectors 2.1, R189. -/
theorem test_or :
    answers (start 0x00221825 0x40000000 [(1, 0xFF00FF00), (2, 0xFF00FF0)])
      (fun t => t.readReg 3 == 0xFFF0FFF0 && t.pc == 0x80010004) = true := by decide +kernel

/-- `xor $3,$1,$2`, vectors 2.1, R190. -/
theorem test_xor :
    answers (start 0x00221826 0x40000000 [(1, 0xFF00FF00), (2, 0xFF00FF0)])
      (fun t => t.readReg 3 == 0xF0F0F0F0 && t.pc == 0x80010004) = true := by decide +kernel

/-- `nor $3,$1,$2`, vectors 2.1, R191. -/
theorem test_nor_1 :
    answers (start 0x00221827 0x40000000 [(1, 0xFF00FF00), (2, 0xFF00FF0)])
      (fun t => t.readReg 3 == 0xF000F && t.pc == 0x80010004) = true := by decide +kernel

/-- `nor $3,$0,$0`, vectors 2.1, R191. -/
theorem test_nor_2 :
    answers (start 0x00001827 0x40000000 [])
      (fun t => t.readReg 3 == 0xFFFFFFFF && t.pc == 0x80010004) = true := by decide +kernel

/-- `slt $3,$1,$2`, vectors 2.1, R206. -/
theorem test_slt_1 :
    answers (start 0x0022182A 0x40000000 [(1, 0xFFFFFFFF), (2, 0x1)])
      (fun t => t.readReg 3 == 0x1 && t.pc == 0x80010004) = true := by decide +kernel

/-- `slt $3,$1,$2`, vectors 2.1, R206. -/
theorem test_slt_2 :
    answers (start 0x0022182A 0x40000000 [(1, 0x80000000), (2, 0x7FFFFFFF)])
      (fun t => t.readReg 3 == 0x1 && t.pc == 0x80010004) = true := by decide +kernel

/-- `sltu $3,$1,$2`, vectors 2.1, R207. -/
theorem test_sltu_1 :
    answers (start 0x0022182B 0x40000000 [(1, 0xFFFFFFFF), (2, 0x1)])
      (fun t => t.readReg 3 == 0x0 && t.pc == 0x80010004) = true := by decide +kernel

/-- `sltu $3,$1,$2`, vectors 2.1, R207. -/
theorem test_sltu_2 :
    answers (start 0x0022182B 0x40000000 [(1, 0x1), (2, 0x1)])
      (fun t => t.readReg 3 == 0x0 && t.pc == 0x80010004) = true := by decide +kernel

/-- `bltz $1,+4`, vectors 2.3, R249. -/
theorem test_bltz_1 :
    answers (start 0x04200004 0x40000000 [(1, 0xFFFFFFFF)])
      (fun t => t.bdPending && t.bdTarget == 0x80010014 &&
        t.pc == 0x80010004) = true := by decide +kernel

/-- `bltz $1,+4`, vectors 2.3, R249. -/
theorem test_bltz_2 :
    answers (start 0x04200004 0x40000000 [(1, 0x0)])
      (fun t => !t.bdPending && t.pc == 0x80010004) = true := by decide +kernel

/-- `bgez $1,+4`, vectors 2.3, R250. -/
theorem test_bgez_1 :
    answers (start 0x04210004 0x40000000 [(1, 0x0)])
      (fun t => t.bdPending && t.bdTarget == 0x80010014 &&
        t.pc == 0x80010004) = true := by decide +kernel

/-- `bgez $1,+4`, vectors 2.3, R250. -/
theorem test_bgez_2 :
    answers (start 0x04210004 0x40000000 [(1, 0x80000000)])
      (fun t => !t.bdPending && t.pc == 0x80010004) = true := by decide +kernel

/-- `bltzal $1,+4`, vectors 2.3, R251. -/
theorem test_bltzal_1 :
    answers (start 0x04300004 0x40000000 [(1, 0xFFFFFFFF)])
      (fun t => t.readReg 31 == 0x80010008 && t.bdPending && t.bdTarget == 0x80010014 &&
        t.pc == 0x80010004) = true := by decide +kernel

/-- `bltzal $1,+4`, vectors 2.3, R251. -/
theorem test_bltzal_2 :
    answers (start 0x04300004 0x40000000 [(1, 0x1), (31, 0xAA)])
      (fun t => t.readReg 31 == 0x80010008 && !t.bdPending &&
        t.pc == 0x80010004) = true := by decide +kernel

/-- `bgezal $1,+4`, vectors 2.3, R252. -/
theorem test_bgezal_1 :
    answers (start 0x04310004 0x40000000 [(1, 0x0)])
      (fun t => t.readReg 31 == 0x80010008 && t.bdPending && t.bdTarget == 0x80010014 &&
        t.pc == 0x80010004) = true := by decide +kernel

/-- `bgezal $31,+4`, vectors 2.3, R252. -/
theorem test_bgezal_2 :
    answers (start 0x07F10004 0x40000000 [(31, 0xFFFFFFFF)])
      (fun t => t.readReg 31 == 0x80010008 && !t.bdPending &&
        t.pc == 0x80010004) = true := by decide +kernel

/-- `j 0x80020000`, vectors 2.3, R241. -/
theorem test_j_1 :
    answers (start 0x08008000 0x40000000 [])
      (fun t => t.bdPending && t.bdTarget == 0x80020000 &&
        t.pc == 0x80010004) = true := by decide +kernel

/-- `j (target26 = 0x3FFFFFF)`, vectors 2.3, R241. -/
theorem test_j_2 :
    answers (start 0x0BFFFFFF 0x40000000 [])
      (fun t => t.bdPending && t.bdTarget == 0x8FFFFFFC &&
        t.pc == 0x80010004) = true := by decide +kernel

/-- `jal 0x80020000`, vectors 2.3, R242. -/
theorem test_jal :
    answers (start 0x0C008000 0x40000000 [])
      (fun t => t.readReg 31 == 0x80010008 && t.bdPending && t.bdTarget == 0x80020000 &&
        t.pc == 0x80010004) = true := by decide +kernel

/-- `beq $1,$2,+3`, vectors 2.3, R245. -/
theorem test_beq_1 :
    answers (start 0x10220003 0x40000000 [(1, 0x5), (2, 0x5)])
      (fun t => t.bdPending && t.bdTarget == 0x80010010 &&
        t.pc == 0x80010004) = true := by decide +kernel

/-- `beq $1,$2,+3`, vectors 2.3, R245. -/
theorem test_beq_2 :
    answers (start 0x10220003 0x40000000 [(1, 0x5), (2, 0x6)])
      (fun t => !t.bdPending && t.pc == 0x80010004) = true := by decide +kernel

/-- `bne $1,$2,-1`, vectors 2.3, R246. -/
theorem test_bne_1 :
    answers (start 0x1422FFFF 0x40000000 [(1, 0x5), (2, 0x6)])
      (fun t => t.bdPending && t.bdTarget == 0x80010000 &&
        t.pc == 0x80010004) = true := by decide +kernel

/-- `bne $1,$2,-1`, vectors 2.3, R246. -/
theorem test_bne_2 :
    answers (start 0x1422FFFF 0x40000000 [(1, 0x5), (2, 0x5)])
      (fun t => !t.bdPending && t.pc == 0x80010004) = true := by decide +kernel

/-- `blez $1,+0x7FFF`, vectors 2.3, R247. -/
theorem test_blez_1 :
    answers (start 0x18207FFF 0x40000000 [(1, 0x0)])
      (fun t => t.bdPending && t.bdTarget == 0x80030000 &&
        t.pc == 0x80010004) = true := by decide +kernel

/-- `blez $1,-0x8000`, vectors 2.3, R247. -/
theorem test_blez_2 :
    answers (start 0x18208000 0x40000000 [(1, 0x80000000)])
      (fun t => t.bdPending && t.bdTarget == 0x7FFF0004 &&
        t.pc == 0x80010004) = true := by decide +kernel

/-- `bgtz $1,+4`, vectors 2.3, R248. -/
theorem test_bgtz_1 :
    answers (start 0x1C200004 0x40000000 [(1, 0x1)])
      (fun t => t.bdPending && t.bdTarget == 0x80010014 &&
        t.pc == 0x80010004) = true := by decide +kernel

/-- `bgtz $1,+4`, vectors 2.3, R248. -/
theorem test_bgtz_2 :
    answers (start 0x1C200004 0x40000000 [(1, 0x0)])
      (fun t => !t.bdPending && t.pc == 0x80010004) = true := by decide +kernel

/-- `addi $3,$1,-1`, vectors 2.1, R186. -/
theorem test_addi_1 :
    answers (start 0x2023FFFF 0x40000000 [(1, 0x80000000), (3, 0xAA)])
      (fun t => t.readReg 3 == 0xAA && t.pc == 0x80000080 &&
        t.cop0.cause == 0x30) = true := by decide +kernel

/-- `addi $3,$1,0x7FFF`, vectors 2.1, R186. -/
theorem test_addi_2 :
    answers (start 0x20237FFF 0x40000000 [(1, 0x7FFF8000)])
      (fun t => t.readReg 3 == 0x7FFFFFFF && t.pc == 0x80010004) = true := by decide +kernel

/-- `addiu $3,$1,-1`, vectors 2.1, R187. -/
theorem test_addiu_1 :
    answers (start 0x2423FFFF 0x40000000 [(1, 0x80000000)])
      (fun t => t.readReg 3 == 0x7FFFFFFF && t.pc == 0x80010004) = true := by decide +kernel

/-- `addiu $3,$1,-0x8000`, vectors 2.1, R187. -/
theorem test_addiu_2 :
    answers (start 0x24238000 0x40000000 [(1, 0x10000)])
      (fun t => t.readReg 3 == 0x8000 && t.pc == 0x80010004) = true := by decide +kernel

/-- `slti $3,$1,-1`, vectors 2.1, R208. -/
theorem test_slti_1 :
    answers (start 0x2823FFFF 0x40000000 [(1, 0xFFFFFFFE)])
      (fun t => t.readReg 3 == 0x1 && t.pc == 0x80010004) = true := by decide +kernel

/-- `slti $3,$1,-1`, vectors 2.1, R208. -/
theorem test_slti_2 :
    answers (start 0x2823FFFF 0x40000000 [(1, 0x0)])
      (fun t => t.readReg 3 == 0x0 && t.pc == 0x80010004) = true := by decide +kernel

/-- `sltiu $3,$1,-1`, vectors 2.1, R209. -/
theorem test_sltiu_1 :
    answers (start 0x2C23FFFF 0x40000000 [(1, 0xFFFFFFFE)])
      (fun t => t.readReg 3 == 0x1 && t.pc == 0x80010004) = true := by decide +kernel

/-- `sltiu $3,$1,1`, vectors 2.1, R209. -/
theorem test_sltiu_2 :
    answers (start 0x2C230001 0x40000000 [(1, 0x0)])
      (fun t => t.readReg 3 == 0x1 && t.pc == 0x80010004) = true := by decide +kernel

/-- `andi $3,$1,0xFFFF`, vectors 2.1, R192. -/
theorem test_andi :
    answers (start 0x3023FFFF 0x40000000 [(1, 0x12345678)])
      (fun t => t.readReg 3 == 0x5678 && t.pc == 0x80010004) = true := by decide +kernel

/-- `ori $3,$1,0x8000`, vectors 2.1, R193. -/
theorem test_ori :
    answers (start 0x34238000 0x40000000 [(1, 0x12340000)])
      (fun t => t.readReg 3 == 0x12348000 && t.pc == 0x80010004) = true := by decide +kernel

/-- `xori $3,$1,0xFFFF`, vectors 2.1, R194. -/
theorem test_xori :
    answers (start 0x3823FFFF 0x40000000 [(1, 0x1234FFFF)])
      (fun t => t.readReg 3 == 0x12340000 && t.pc == 0x80010004) = true := by decide +kernel

/-- `lui $3,0x8001`, vectors 2.1, R195. -/
theorem test_lui :
    answers (start 0x3C038001 0x40000000 [(3, 0xFFFFFFFF)])
      (fun t => t.readReg 3 == 0x80010000 && t.pc == 0x80010004) = true := by decide +kernel

/-- `mfc0 $2,$12`, vectors 2.6, R303. -/
theorem test_mfc0_1 :
    answers (start 0x40026000 0x40000401 [(2, 0xAA)])
      (fun t => t.pc == 0x80010004 && t.readReg 2 == 0xAA &&
        t.ldCur == some ⟨2, 0x40000401⟩) = true := by decide +kernel

/-- `mfc0 $2,$12 (user mode, CU0=0)`, vectors 2.6, R300. -/
theorem test_mfc0_2 :
    answers (start 0x40026000 0x2 [])
      (fun t => t.pc == 0x80000080 && t.cop0.cause == 0x2C && t.cop0.epc == 0x80010000 &&
        t.cop0.sr == 0x8) = true := by decide +kernel

/-- `mtc0 $2,$12`, vectors 2.6, R305. -/
theorem test_mtc0_1 :
    answers (start 0x40826000 0x40000000 [(2, 0xFFFFFFFF)])
      (fun t => t.pc == 0x80010004 && t.cop0.sr == 0xFFFFFFFF) = true := by decide +kernel

/-- `mtc0 $2,$13`, vectors 2.6, R305. -/
theorem test_mtc0_2 :
    answers (start 0x40826800 0x40000000 [(2, 0xFFFFFFFF)])
      (fun t => t.pc == 0x80010004 && t.cop0.cause == 0x300) = true := by decide +kernel

/-- `rfe`, vectors 2.6, R304. -/
theorem test_rfe_1 :
    answers (start 0x42000010 0x50000027 [])
      (fun t => t.pc == 0x80010004 && t.cop0.sr == 0x50000029) = true := by decide +kernel

/-- `rfe (user mode, CU0=0)`, vectors 2.6, R300. -/
theorem test_rfe_2 :
    answers (start 0x42000010 0x40000027 [])
      (fun t => t.pc == 0x80000080 && t.cop0.cause == 0x2C && t.cop0.epc == 0x80010000 &&
        t.cop0.sr == 0x4000001C) = true := by decide +kernel

/-- `cop0, rs=0x08`, vectors 2.6, R307. -/
theorem test_cop0Reserved_1 :
    answers (start 0x41000000 0x40000000 [])
      (fun t => t.pc == 0x80000080 && t.cop0.cause == 0x28 && t.cop0.epc == 0x80010000 &&
        t.cop0.sr == 0x40000000) = true := by decide +kernel

/-- `cop0, bit 25 set, functor 0x01`, vectors 2.6, R307. -/
theorem test_cop0Reserved_2 :
    answers (start 0x42000001 0x40000000 [])
      (fun t => t.pc == 0x80000080 && t.cop0.cause == 0x28 && t.cop0.epc == 0x80010000 &&
        t.cop0.sr == 0x40000000) = true := by decide +kernel

/-- `cop1 (any word)`, vectors 2.6, R308. -/
theorem test_cop1 :
    answers (start 0x44000000 0x20000000 [])
      (fun t => t.pc == 0x80000080 && t.cop0.cause == 0x1000002C && t.cop0.epc == 0x80010000 &&
        t.cop0.sr == 0x20000000) = true := by decide +kernel

/-- `mfc2 $2,$0 with CU2=0`, vectors 2.6, R330. -/
theorem test_mfc2 :
    answers (start 0x48020000 0x0 [])
      (fun t => t.pc == 0x80000080 && t.cop0.cause == 0x2000002C && t.cop0.epc == 0x80010000 &&
        t.cop0.sr == 0x0) = true := by decide +kernel

/-- `cop2, bit 25 clear, rs=0x08`, vectors 2.6, R337. -/
theorem test_cop2Reserved :
    answers (start 0x49000000 0x40000000 [])
      (fun t => t.pc == 0x80000080 && t.cop0.cause == 0x28 && t.cop0.epc == 0x80010000 &&
        t.cop0.sr == 0x40000000) = true := by decide +kernel

/-- `cop2 command 0x00`, vectors 2.6, R133 of 30_encoding.md. -/
theorem test_gteReserved_1 :
    answers (start 0x4A000000 0x40000000 [])
      (fun t => t.pc == 0x80000080 && t.cop0.cause == 0x28 && t.cop0.epc == 0x80010000 &&
        t.cop0.sr == 0x40000000) = true := by decide +kernel

/-- `cop2 command 0x3C`, vectors 2.6, R133 of 30_encoding.md. -/
theorem test_gteReserved_2 :
    answers (start 0x4A00003C 0x40000000 [])
      (fun t => t.pc == 0x80000080 && t.cop0.cause == 0x28 && t.cop0.epc == 0x80010000 &&
        t.cop0.sr == 0x40000000) = true := by decide +kernel

/-- `cop3 (any word)`, vectors 2.6, R309. -/
theorem test_cop3 :
    answers (start 0x4C000000 0x80000000 [])
      (fun t => t.pc == 0x80000080 && t.cop0.cause == 0x3000002C && t.cop0.epc == 0x80010000 &&
        t.cop0.sr == 0x80000000) = true := by decide +kernel

/-- `lb $2,3($1)`, vectors 2.4, R271. -/
theorem test_lb_1 :
    answers (start 0x80220003 0x40000000 [(1, 0x80001004), (2, 0xAA)])
      (fun t => t.readReg 2 == 0xAA && t.ldCur == some ⟨2, 0xFFFFFF88⟩ &&
        t.pc == 0x80010004) = true := by decide +kernel

/-- `lb $2,0($1)`, vectors 2.4, R271. -/
theorem test_lb_2 :
    answers (start 0x80220000 0x40000000 [(1, 0x80001000), (2, 0xAA)])
      (fun t => t.readReg 2 == 0xAA && t.ldCur == some ⟨2, 0x11⟩ &&
        t.pc == 0x80010004) = true := by decide +kernel

/-- `lh $2,2($1)`, vectors 2.4, R273. -/
theorem test_lh_1 :
    answers (start 0x84220002 0x40000000 [(1, 0x80001004), (2, 0xAA)])
      (fun t => t.readReg 2 == 0xAA && t.ldCur == some ⟨2, 0xFFFF8877⟩ &&
        t.pc == 0x80010004) = true := by decide +kernel

/-- `lh $2,1($1)`, vectors 2.4, R273. -/
theorem test_lh_2 :
    answers (start 0x84220001 0x40000000 [(1, 0x80001000), (2, 0xAA)])
      (fun t => t.readReg 2 == 0xAA && t.ldCur == none && t.cop0.cause == 0x10 &&
        t.cop0.badVaddr == 0x80001001 && t.pc == 0x80000080) = true := by decide +kernel

/-- `lwl $2,0($1)`, vectors 2.4, R281. -/
theorem test_lwl_1 :
    answers (start 0x88220000 0x40000000 [(1, 0x80001000), (2, 0xAABBCCDD)])
      (fun t => t.readReg 2 == 0xAABBCCDD && t.ldCur == some ⟨2, 0x11BBCCDD⟩ &&
        t.pc == 0x80010004) = true := by decide +kernel

/-- `lwl $2,3($1)`, vectors 2.4, R281. -/
theorem test_lwl_2 :
    answers (start 0x88220003 0x40000000 [(1, 0x80001000), (2, 0xAABBCCDD)])
      (fun t => t.readReg 2 == 0xAABBCCDD && t.ldCur == some ⟨2, 0x44332211⟩ &&
        t.pc == 0x80010004) = true := by decide +kernel

/-- `lw $2,0($1)`, vectors 2.4, R275. -/
theorem test_lw_1 :
    answers (start 0x8C220000 0x40000000 [(1, 0x80001000), (2, 0xAA)])
      (fun t => t.readReg 2 == 0xAA && t.ldCur == some ⟨2, 0x44332211⟩ &&
        t.pc == 0x80010004) = true := by decide +kernel

/-- `lw $2,2($1)`, vectors 2.4, R275. -/
theorem test_lw_2 :
    answers (start 0x8C220002 0x40000000 [(1, 0x80001000), (2, 0xAA)])
      (fun t => t.readReg 2 == 0xAA && t.ldCur == none && t.cop0.cause == 0x10 &&
        t.cop0.badVaddr == 0x80001002 && t.pc == 0x80000080) = true := by decide +kernel

/-- `lbu $2,3($1)`, vectors 2.4, R272. -/
theorem test_lbu :
    answers (start 0x90220003 0x40000000 [(1, 0x80001004), (2, 0xAA)])
      (fun t => t.readReg 2 == 0xAA && t.ldCur == some ⟨2, 0x88⟩ &&
        t.pc == 0x80010004) = true := by decide +kernel

/-- `lhu $2,2($1)`, vectors 2.4, R274. -/
theorem test_lhu_1 :
    answers (start 0x94220002 0x40000000 [(1, 0x80001004), (2, 0xAA)])
      (fun t => t.readReg 2 == 0xAA && t.ldCur == some ⟨2, 0x8877⟩ &&
        t.pc == 0x80010004) = true := by decide +kernel

/-- `lhu $2,3($1)`, vectors 2.4, R274. -/
theorem test_lhu_2 :
    answers (start 0x94220003 0x40000000 [(1, 0x80001000), (2, 0xAA)])
      (fun t => t.readReg 2 == 0xAA && t.ldCur == none && t.cop0.cause == 0x10 &&
        t.cop0.badVaddr == 0x80001003 && t.pc == 0x80000080) = true := by decide +kernel

/-- `lwr $2,0($1)`, vectors 2.4, R282. -/
theorem test_lwr_1 :
    answers (start 0x98220000 0x40000000 [(1, 0x80001000), (2, 0xAABBCCDD)])
      (fun t => t.readReg 2 == 0xAABBCCDD && t.ldCur == some ⟨2, 0x44332211⟩ &&
        t.pc == 0x80010004) = true := by decide +kernel

/-- `lwr $2,3($1)`, vectors 2.4, R282. -/
theorem test_lwr_2 :
    answers (start 0x98220003 0x40000000 [(1, 0x80001000), (2, 0xAABBCCDD)])
      (fun t => t.readReg 2 == 0xAABBCCDD && t.ldCur == some ⟨2, 0xAABBCC44⟩ &&
        t.pc == 0x80010004) = true := by decide +kernel

/-- `sb $2,1($1)`, vectors 2.5, R283. -/
theorem test_sb_1 :
    answers (start 0xA0220001 0x40000000 [(1, 0x80001000), (2, 0xAABBCCDD)])
      (fun t => t.mem.readWord 0x80001000 == 0x4433DD11 &&
        t.pc == 0x80010004) = true := by decide +kernel

/-- `sb $2,3($1)`, vectors 2.5, R283. -/
theorem test_sb_2 :
    answers (start 0xA0220003 0x40000000 [(1, 0x80001000), (2, 0xAABBCCDD)])
      (fun t => t.mem.readWord 0x80001000 == 0xDD332211 &&
        t.pc == 0x80010004) = true := by decide +kernel

/-- `sh $2,0($1)`, vectors 2.5, R284. -/
theorem test_sh_1 :
    answers (start 0xA4220000 0x40000000 [(1, 0x80001000), (2, 0xAABBCCDD)])
      (fun t => t.mem.readWord 0x80001000 == 0x4433CCDD &&
        t.pc == 0x80010004) = true := by decide +kernel

/-- `sh $2,1($1)`, vectors 2.5, R284. -/
theorem test_sh_2 :
    answers (start 0xA4220001 0x40000000 [(1, 0x80001000), (2, 0xAABBCCDD)])
      (fun t => t.mem.readWord 0x80001000 == 0x44332211 && t.pc == 0x80000080 &&
        t.cop0.cause == 0x14 && t.cop0.badVaddr == 0x80001001) = true := by decide +kernel

/-- `swl $2,0($1)`, vectors 2.5, R288. -/
theorem test_swl_1 :
    answers (start 0xA8220000 0x40000000 [(1, 0x80001000), (2, 0xAABBCCDD)])
      (fun t => t.mem.readWord 0x80001000 == 0x443322AA &&
        t.pc == 0x80010004) = true := by decide +kernel

/-- `swl $2,3($1)`, vectors 2.5, R288. -/
theorem test_swl_2 :
    answers (start 0xA8220003 0x40000000 [(1, 0x80001000), (2, 0xAABBCCDD)])
      (fun t => t.mem.readWord 0x80001000 == 0xAABBCCDD &&
        t.pc == 0x80010004) = true := by decide +kernel

/-- `sw $2,0($1)`, vectors 2.5, R285. -/
theorem test_sw_1 :
    answers (start 0xAC220000 0x40000000 [(1, 0x80001000), (2, 0xAABBCCDD)])
      (fun t => t.mem.readWord 0x80001000 == 0xAABBCCDD &&
        t.pc == 0x80010004) = true := by decide +kernel

/-- `sw $2,2($1)`, vectors 2.5, R285. -/
theorem test_sw_2 :
    answers (start 0xAC220002 0x40000000 [(1, 0x80001000), (2, 0xAABBCCDD)])
      (fun t => t.mem.readWord 0x80001000 == 0x44332211 && t.pc == 0x80000080 &&
        t.cop0.cause == 0x14 && t.cop0.epc == 0x80010000 &&
        t.cop0.badVaddr == 0x80001002) = true := by decide +kernel

/-- `swr $2,0($1)`, vectors 2.5, R289. -/
theorem test_swr_1 :
    answers (start 0xB8220000 0x40000000 [(1, 0x80001000), (2, 0xAABBCCDD)])
      (fun t => t.mem.readWord 0x80001000 == 0xAABBCCDD &&
        t.pc == 0x80010004) = true := by decide +kernel

/-- `swr $2,3($1)`, vectors 2.5, R289. -/
theorem test_swr_2 :
    answers (start 0xB8220003 0x40000000 [(1, 0x80001000), (2, 0xAABBCCDD)])
      (fun t => t.mem.readWord 0x80001000 == 0xDD332211 &&
        t.pc == 0x80010004) = true := by decide +kernel

/-- `lwc0`, vectors 2.6, R310. -/
theorem test_lwc0 :
    answers (start 0xC0000000 0x10000000 [])
      (fun t => t.pc == 0x80000080 && t.cop0.cause == 0x2C && t.cop0.epc == 0x80010000 &&
        t.cop0.sr == 0x10000000) = true := by decide +kernel

/-- `lwc1`, vectors 2.6, R311. -/
theorem test_lwc1 :
    answers (start 0xC4000000 0x40000000 [])
      (fun t => t.pc == 0x80000080 && t.cop0.cause == 0x1000002C && t.cop0.epc == 0x80010000 &&
        t.cop0.sr == 0x40000000) = true := by decide +kernel

/-- `lwc2 $0,1($1)`, vectors 2.6, R335. -/
theorem test_lwc2 :
    answers (start 0xC8200001 0x40000000 [(1, 0x80001000)])
      (fun t => t.pc == 0x80000080 && t.cop0.cause == 0x10 && t.cop0.epc == 0x80010000 &&
        t.cop0.badVaddr == 0x80001001) = true := by decide +kernel

/-- `lwc3`, vectors 2.6, R312. -/
theorem test_lwc3 :
    answers (start 0xCC000000 0x40000000 [])
      (fun t => t.pc == 0x80000080 && t.cop0.cause == 0x3000002C && t.cop0.epc == 0x80010000 &&
        t.cop0.sr == 0x40000000) = true := by decide +kernel

/-- `swc0`, vectors 2.6, R313. -/
theorem test_swc0 :
    answers (start 0xE0000000 0x40000000 [])
      (fun t => t.pc == 0x80000080 && t.cop0.cause == 0x2C && t.cop0.epc == 0x80010000 &&
        t.cop0.sr == 0x40000000) = true := by decide +kernel

/-- `swc1`, vectors 2.6, R314. -/
theorem test_swc1 :
    answers (start 0xE4000000 0x40000000 [])
      (fun t => t.pc == 0x80000080 && t.cop0.cause == 0x1000002C && t.cop0.epc == 0x80010000 &&
        t.cop0.sr == 0x40000000) = true := by decide +kernel

/-- `swc2 $0,2($1)`, vectors 2.6, R336. -/
theorem test_swc2 :
    answers (start 0xE8200002 0x40000000 [(1, 0x80001000)])
      (fun t => t.pc == 0x80000080 && t.cop0.cause == 0x14 && t.cop0.epc == 0x80010000 &&
        t.cop0.badVaddr == 0x80001002) = true := by decide +kernel

/-- `swc3`, vectors 2.6, R315. -/
theorem test_swc3 :
    answers (start 0xEC000000 0x40000000 [])
      (fun t => t.pc == 0x80000080 && t.cop0.cause == 0x3000002C && t.cop0.epc == 0x80010000 &&
        t.cop0.sr == 0x40000000) = true := by decide +kernel

/-- `regimm rt=0x02 (reserved)`, vectors 2.3, R118, R130 of 30_encoding.md. -/
theorem test_reserved_1 :
    answers (start 0x04220004 0x40000000 [(1, 0x0)])
      (fun t => t.pc == 0x80000080 && t.cop0.cause == 0x28 &&
        t.cop0.epc == 0x80010000) = true := by decide +kernel

/-- `opcode 0x2F`, vectors 2.6, R130 of 30_encoding.md, R316. -/
theorem test_reserved_2 :
    answers (start 0xBC000000 0x40000000 [])
      (fun t => t.pc == 0x80000080 && t.cop0.cause == 0x28 &&
        t.cop0.epc == 0x80010000) = true := by decide +kernel

/-! ### GTE transfers and commands

Data registers are loaded through the port, then the three screen registers as stored fields. -/

/-- The GTE after port writes from the all-zero state. -/
def gteOf (ports : List (BitVec 6 × Word)) : Gte :=
  ports.foldl (fun g p => g.portWrite true p.1 p.2) Gte.reset

/-- The state G0 of 96_test_vectors_sequences_gte.md section 4.1. -/
def g0 : Gte :=
  { gteOf ([(0, 0xFFCE0064), (1, 0xC8), (2, 0x0014000A), (3, 0x1E), (4, 0x0064FF9C), (5, 0x3E8),
      (6, 0x20808080), (8, 0x0800), (9, 0x0100), (10, 0x0200), (11, 0x0300), (16, 0x0100)] ++
      [(17, 0x0200), (18, 0x0300), (19, 0x0400), (20, 0x00102030), (21, 0x00405060),
      (22, 0x00708090), (25, 0x1000), (26, 0x2000), (27, 0x3000), (32, 0x1000), (34, 0x1000)] ++
      [(36, 0x1000), (40, 0x1000), (42, 0x1000), (44, 0x1000), (48, 0x1000), (50, 0x1000),
      (52, 0x1000), (39, 500), (45, 0x100), (46, 0x200), (47, 0x300), (53, 0xFF0), (54, 0x800)] ++
      [(56, 0x00A00000), (57, 0x00780000), (58, 200), (59, 0x0100), (60, 0x00800000), (61, 0x0555),
      (62, 0x0400)]) with
    sxy0 := ⟨0, 0⟩, sxy1 := ⟨100, 0⟩, sxy2 := ⟨0, 100⟩ }

/-- The start state with the GTE as given. -/
def gteStart (w : Word) (g : Gte) : State := { start w 0x40000000 [(1, 0x80001000)] with gte := g }

/-- The port reads the listed values, and the program counter has moved on. -/
def reads (ports : List (BitVec 6 × Word)) (t : State) : Bool :=
  ports.all (fun p => t.gte.portRead p.1 == p.2) && t.pc == 0x80010004

/-- RTPS sf=1, vectors 4.4, R451. -/
theorem test_rtps_1 :
    answers (gteStart 0x4A180001 g0)
      (reads [(8, 0xC92), (9, 0x64), (10, 0xFFFFFFCE), (11, 0x2BC), (12, 0x64), (13, 0x640000),
        (14, 0x6900BC), (16, 0x200), (17, 0x300), (18, 0x400), (19, 0x2BC), (24, 0xC92500),
        (25, 0x64), (26, 0xFFFFFFCE), (27, 0x2BC), (63, 0x0)]) = true := by decide +kernel

/-- The first row of 4.5, R451. -/
theorem test_rtps_2 :
    answers (gteStart 0x4A180001 (gteOf [(32, 0x1000), (34, 0x1000), (36, 0x1000),
        (37, 0x7FFFFFFF), (0, 1), (1, 0x1000), (58, 0x100)]))
      (reads [(9, 0xFFFF8000), (11, 0x1000), (14, 0xFC00), (19, 0x1000), (25, 0x80000000),
        (27, 0x1000), (63, 0xC1004000)]) = true := by decide +kernel

/-- NCLIP, vectors 4.4, R453. -/
theorem test_nclip_1 :
    answers (gteStart 0x4B400006 g0)
      (reads [(24, 0x2710), (63, 0x0)]) = true := by decide +kernel

/-- The tenth row of 4.5, R453. -/
theorem test_nclip_2 :
    answers (gteStart 0x4B400006 { gteOf [] with
        sxy0 := ⟨0x7FFF, 0x8000⟩, sxy1 := ⟨0x8000, 0x7FFF⟩, sxy2 := ⟨0x7FFF, 0x7FFF⟩ })
      (reads [(24, 0x1FFFF), (63, 0x80008000)]) = true := by decide +kernel

/-- OP sf=1, vectors 4.4, R454. -/
theorem test_op_1 :
    answers (gteStart 0x4B78000C g0)
      (reads [(10, 0xFFFFFE00), (11, 0x100), (25, 0x100), (26, 0xFFFFFE00), (27, 0x100),
        (63, 0x0)]) = true := by decide +kernel

/-- OP sf=0, vectors 4.4, R454. -/
theorem test_op_2 :
    answers (gteStart 0x4B70000C g0)
      (reads [(9, 0x7FFF), (10, 0xFFFF8000), (11, 0x7FFF), (25, 0x100000), (26, 0xFFE00000),
        (27, 0x100000), (63, 0x81C00000)]) = true := by decide +kernel

/-- DPCS sf=1, vectors 4.4, R456. -/
theorem test_dpcs :
    answers (gteStart 0x4A780010 g0)
      (reads [(9, 0xBF8), (10, 0x800), (11, 0x400), (20, 0x405060), (21, 0x708090),
        (22, 0x204080BF), (25, 0xBF8), (26, 0x800), (27, 0x400),
        (63, 0x0)]) = true := by decide +kernel

/-- INTPL sf=1, vectors 4.4, R459. -/
theorem test_intpl :
    answers (gteStart 0x4A980011 g0)
      (reads [(9, 0x878), (10, 0x500), (11, 0x180), (20, 0x405060), (21, 0x708090),
        (22, 0x20185087), (25, 0x878), (26, 0x500), (27, 0x180),
        (63, 0x0)]) = true := by decide +kernel

/-- MVMVA mx=1 vx=3 tx=1 sf=1 lm=1, vectors 4.4, R455. -/
theorem test_mvmva_1 :
    answers (gteStart 0x4A4BA412 g0)
      (reads [(9, 0x200), (10, 0x400), (11, 0x600), (25, 0x200), (26, 0x400), (27, 0x600),
        (63, 0x0)]) = true := by decide +kernel

/-- The last row of 4.5, R455. -/
theorem test_mvmva_2 :
    answers (gteStart 0x4A404412 { g0 with fc := ⟨0x12345, BitVec.ofInt 32 (-70000), 0x100⟩ })
      (reads [(25, 0x0), (26, 0xFFFCE000), (27, 0xC8000), (9, 0x0), (10, 0x0), (11, 0x7FFF),
        (63, 0x81C00000)]) = true := by decide +kernel

/-- NCDS sf=1 lm=1, vectors 4.4, R464. -/
theorem test_ncds :
    answers (gteStart 0x4AE80413 g0)
      (reads [(9, 0x851), (10, 0x480), (11, 0xF2), (20, 0x405060), (21, 0x708090),
        (22, 0x200F4885), (25, 0x851), (26, 0x480), (27, 0xF2),
        (63, 0x80800000)]) = true := by decide +kernel

/-- CDP sf=1 lm=1, vectors 4.4, R467. -/
theorem test_cdp :
    answers (gteStart 0x4B280414 g0)
      (reads [(9, 0x878), (10, 0x500), (11, 0x180), (20, 0x405060), (21, 0x708090),
        (22, 0x20185087), (25, 0x878), (26, 0x500), (27, 0x180),
        (63, 0x0)]) = true := by decide +kernel

/-- NCDT sf=1 lm=1, vectors 4.4, R465. -/
theorem test_ncdt :
    answers (gteStart 0x4AF80416 g0)
      (reads [(9, 0x838), (10, 0x499), (11, 0x1BA), (20, 0x200F4885), (21, 0x200C4883),
        (22, 0x201B4983), (25, 0x838), (26, 0x499), (27, 0x1BA),
        (63, 0x81800000)]) = true := by decide +kernel

/-- NCCS sf=1 lm=1, vectors 4.4, R462. -/
theorem test_nccs :
    answers (gteStart 0x4B08041B g0)
      (reads [(9, 0xB2), (10, 0x100), (11, 0x1E4), (20, 0x405060), (21, 0x708090),
        (22, 0x201E100B), (25, 0xB2), (26, 0x100), (27, 0x1E4),
        (63, 0x80800000)]) = true := by decide +kernel

/-- CC sf=1 lm=1, vectors 4.4, R466. -/
theorem test_cc :
    answers (gteStart 0x4B38041C g0)
      (reads [(20, 0x405060), (21, 0x708090), (22, 0x20302010), (25, 0x100), (26, 0x200),
        (27, 0x300), (63, 0x0)]) = true := by decide +kernel

/-- NCS sf=1 lm=1, vectors 4.4, R460. -/
theorem test_ncs :
    answers (gteStart 0x4AC8041E g0)
      (reads [(9, 0x164), (11, 0x3C8), (20, 0x405060), (21, 0x708090), (22, 0x203C2016),
        (25, 0x164), (26, 0x200), (27, 0x3C8), (63, 0x80800000)]) = true := by decide +kernel

/-- NCT sf=1 lm=1, vectors 4.4, R461. -/
theorem test_nct :
    answers (gteStart 0x4AD80420 g0)
      (reads [(10, 0x264), (11, 0x6E8), (20, 0x203C2016), (21, 0x20312110), (22, 0x206E2610),
        (25, 0x100), (26, 0x264), (27, 0x6E8), (63, 0x81800000)]) = true := by decide +kernel

/-- SQR sf=1, vectors 4.4, R468. -/
theorem test_sqr_1 :
    answers (gteStart 0x4AA80428 g0)
      (reads [(9, 0x10), (10, 0x40), (11, 0x90), (25, 0x10), (26, 0x40), (27, 0x90),
        (63, 0x0)]) = true := by decide +kernel

/-- SQR sf=0, vectors 4.4, R468. -/
theorem test_sqr_2 :
    answers (gteStart 0x4AA00428 g0)
      (reads [(9, 0x7FFF), (10, 0x7FFF), (11, 0x7FFF), (25, 0x10000), (26, 0x40000),
        (27, 0x90000), (63, 0x81C00000)]) = true := by decide +kernel

/-- DCPL sf=1, vectors 4.4, R458. -/
theorem test_dcpl :
    answers (gteStart 0x4A680029 g0)
      (reads [(9, 0x838), (10, 0x480), (11, 0xC0), (20, 0x405060), (21, 0x708090),
        (22, 0x200C4883), (25, 0x838), (26, 0x480), (27, 0xC0),
        (63, 0x0)]) = true := by decide +kernel

/-- DPCT sf=1, vectors 4.4, R457. -/
theorem test_dpct :
    answers (gteStart 0x4AF8002A g0)
      (reads [(9, 0xC78), (10, 0x800), (11, 0x380), (20, 0x20085097), (21, 0x202068AF),
        (22, 0x203880C7), (25, 0xC78), (26, 0x800), (27, 0x380),
        (63, 0x0)]) = true := by decide +kernel

/-- AVSZ3, vectors 4.4, R469. -/
theorem test_avsz3_1 :
    answers (gteStart 0x4B58002D g0)
      (reads [(7, 0x2FF), (24, 0x2FFD00), (63, 0x0)]) = true := by decide +kernel

/-- The eighth row of 4.5, R469. -/
theorem test_avsz3_2 :
    answers (gteStart 0x4B58002D (gteOf [(17, 0xFFFF), (18, 0xFFFF), (19, 0xFFFF), (61, 0x8000)]))
      (reads [(7, 0x0), (24, 0x80018000), (63, 0x80048000)]) = true := by decide +kernel

/-- AVSZ4, vectors 4.4, R470. -/
theorem test_avsz4_1 :
    answers (gteStart 0x4B68002E g0)
      (reads [(7, 0x280), (24, 0x280000), (63, 0x0)]) = true := by decide +kernel

/-- The ninth row of 4.5, R470. -/
theorem test_avsz4_2 :
    answers (gteStart 0x4B68002E (gteOf [(16, 0xFFFF), (17, 0xFFFF), (18, 0xFFFF),
        (19, 0xFFFF), (62, 0x7FFF)]))
      (reads [(7, 0xFFFF), (24, 0xFFFA0004), (63, 0x80050000)]) = true := by decide +kernel

/-- RTPT sf=1, vectors 4.4, R452. -/
theorem test_rtpt :
    answers (gteStart 0x4A280030 g0)
      (reads [(8, 0xA22), (9, 0xFFFFFF9C), (10, 0x64), (11, 0x5DC), (12, 0x6900BC),
        (13, 0x7F00A3), (14, 0x850092), (16, 0x400), (17, 0x2BC), (18, 0x212), (19, 0x5DC),
        (24, 0xA22200), (25, 0xFFFFFF9C), (26, 0x64), (27, 0x5DC),
        (63, 0x0)]) = true := by decide +kernel

/-- GPF sf=1, vectors 4.4, R471. -/
theorem test_gpf_1 :
    answers (gteStart 0x4B98003D g0)
      (reads [(9, 0x80), (10, 0x100), (11, 0x180), (20, 0x405060), (21, 0x708090),
        (22, 0x20181008), (25, 0x80), (26, 0x100), (27, 0x180),
        (63, 0x0)]) = true := by decide +kernel

/-- The fourteenth row of 4.5, R471. -/
theorem test_gpf_2 :
    answers (gteStart 0x4B98043D (gteOf [(8, 0x1000), (9, 0xFF0), (10, 0x1000), (11, 0xFFFF),
        (6, 0xAB000000)]))
      (reads [(11, 0x0), (22, 0xAB00FFFF), (25, 0xFF0), (26, 0x1000), (27, 0xFFFFFFFF),
        (63, 0x580000)]) = true := by decide +kernel

/-- GPL sf=1, vectors 4.4, R472. -/
theorem test_gpl_1 :
    answers (gteStart 0x4BA8003E g0)
      (reads [(9, 0x1080), (10, 0x2100), (11, 0x3180), (20, 0x405060), (21, 0x708090),
        (22, 0x20FFFFFF), (25, 0x1080), (26, 0x2100), (27, 0x3180),
        (63, 0x380000)]) = true := by decide +kernel

/-- The fifteenth row of 4.5, R472. -/
theorem test_gpl_2 :
    answers (gteStart 0x4BA8003E (gteOf [(8, 0x1000), (25, 0x7FFFFFFF), (26, 0x80000000),
        (27, 1), (9, 1), (10, 0xFFFF), (11, 0)]))
      (reads [(9, 0xFFFF8000), (10, 0x7FFF), (11, 0x1), (22, 0xFF00), (25, 0x80000000),
        (26, 0x7FFFFFFF), (63, 0xC5B00000)]) = true := by decide +kernel

/-- NCCT sf=1 lm=1, vectors 4.4, R463. -/
theorem test_ncct :
    answers (gteStart 0x4B18043F g0)
      (reads [(9, 0x80), (10, 0x132), (11, 0x374), (20, 0x201E100B), (21, 0x20181008),
        (22, 0x20371308), (25, 0x80), (26, 0x132), (27, 0x374),
        (63, 0x81800000)]) = true := by decide +kernel

/-- `mfc2 $2,$9` of `IR1 <- 0xFFFF`, vectors 4.2, R331: a delayed write. -/
theorem test_mfc2_2 : answers (gteStart 0x48024800 (gteOf [(9, 0xFFFF)]))
    (fun t => t.ldCur == some ⟨2, 0xFFFFFFFF⟩ && t.readReg 2 == 0) = true := by decide +kernel

/-- `cfc2 $2,$26` of `H <- 0x8000`, vectors 4.2, R332 and the quirk of R368. -/
theorem test_cfc2 : answers (gteStart 0x4842D000 (gteOf [(58, 0x8000)]))
    (fun t => t.ldCur == some ⟨2, 0xFFFF8000⟩) = true := by decide +kernel

/-- `mtc2 $1,$14` with `x[1] = 0xAAAABBBB`, vectors 4.2, R333 and R352. -/
theorem test_mtc2 : answers { start 0x48817000 0x40000000 [(1, 0xAAAABBBB)] with
      gte := gteOf [(12, 0x11111111), (13, 0x22222222)] }
    (reads [(12, 0x22222222), (13, 0), (14, 0xAAAABBBB), (15, 0xAAAABBBB)]) = true := by
  decide +kernel

/-- `ctc2 $1,$31` with `x[1] = 0x7F87E000`, vectors 4.2, R334 and R371. -/
theorem test_ctc2 : answers (start 0x48C1F800 0x40000000 [(1, 0x7F87E000)])
    (reads [(63, 0xFF87E000)]) = true := by decide +kernel

/-- `lwc2 $28,0($1)`, R335: the word 0x44332211 goes to IRGB (R362). -/
theorem test_lwc2_2 : answers (gteStart 0xC83C0000 (gteOf []))
    (reads [(9, 0x880), (10, 0x800), (11, 0x400)]) = true := by decide +kernel

/-- `swc2 $31,4($1)` of `LZCS <- 0xFFFF0000`, vectors 4.2, R336 and R364. -/
theorem test_swc2_2 : answers (gteStart 0xE83F0004 (gteOf [(30, 0xFFFF0000)]))
    (fun t => t.mem.readWord 0x80001004 == 0x10) = true := by decide +kernel

/-- The divider's table of 4.3, R420; the last row is where the parameter shows. -/
theorem test_divider :
    divide true 200 100 = (0x1FFFF, true) ∧ divide true 200 101 = (0x1FAED, false) ∧
    divide true 0 0 = (0x1FFFF, true) ∧ divide true 65535 32769 = (0x1FFFA, false) ∧
    divide true 65535 32767 = (0x1FFFF, true) ∧ divide true 1 65535 = (1, false) ∧
    divide true 65087 32544 = (0x1FFFF, true) ∧ divide false 65087 32544 = (0x1FFFF, false) := by
  decide +kernel

/-- Entries of the table `UNR` of R421: both ends, and one entry in the middle. -/
theorem test_unr : unr 0 = 0xFF ∧ unr 0x7F = 0x55 ∧ unr 0xFF = 0x00 ∧ unr 0x100 = 0x00 := by
  decide +kernel

/-! ### The step around the instruction (sequences of section 3) -/

/-- S2, step 2: the second of two loads to one register cancels the first. -/
theorem test_cancelled_load : answers { start 0x8C220004 0x40000000 [(1, 0x80001000), (2, 0xAA)] with
      ldCur := some ⟨2, 0x44332211⟩ }
    (fun t => t.readReg 2 == 0xAA && t.ldCur == some ⟨2, 0x88776655⟩) = true := by decide +kernel

/-- S3, step 2: an immediate write overtakes the pending load. -/
theorem test_overtaken_load : answers { start 0x24020007 0x40000000 [(2, 0xAA)] with
      ldCur := some ⟨2, 0x44332211⟩ }
    (fun t => t.readReg 2 == 7 && t.ldCur == none) = true := by decide +kernel

/-- S5, step 2: LWL merges with the value pending for its register. -/
theorem test_pending_merge : answers { start 0x88220004 0x40000000 [(1, 0x80001000), (2, 0xAABBCCDD)]
      with ldCur := some ⟨2, 0xAA443322⟩ }
    (fun t => t.readReg 2 == 0xAABBCCDD && t.ldCur == some ⟨2, 0x55443322⟩) = true := by
  decide +kernel

/-- S8, step 2: the delay slot has run and the jump resolves. -/
theorem test_jump_resolves : answers { start 0x00000000 0x40000000 [] with
      bdPending := true, bdTarget := 0x80020000 }
    (fun t => t.pc == 0x80020000 && !t.bdPending) = true := by decide +kernel

/-- S11, step 2: a jump in the delay slot of a jump. -/
theorem test_jump_in_slot : stops { start 0x0800400C 0x40000000 [] with
      bdPending := true, bdTarget := 0x80010020 } .jumpInDelaySlot = true := by decide +kernel

/-- `mfc0 $2,$0`, vectors 2.6, R306: an unmapped number. -/
theorem test_unmapped_cop0 :
    stops (start 0x40020000 0x40000000 [(2, 0xAA)]) .unmappedCop0Register = true := by
  decide +kernel

/-- S14, step 2: an overflow in a delay slot. -/
theorem test_trap_in_slot : answers { start 0x00221820 0x40000003 [(1, 0x7FFFFFFF), (2, 1)] with
      bdPending := true, bdTarget := 0x80010014 }
    (fun t => t.pc == 0x80000080 && t.cop0.sr == 0x4000000C && t.cop0.cause == 0x80000030 &&
      t.cop0.epc == 0x8000FFFC && t.cop0.tar == 0x80010014 && !t.bdPending) = true := by
  decide +kernel

/-- S15, step 3: the fetch at a misaligned address. -/
theorem test_misaligned_fetch : answers { start 0 0x40000000 [] with pc := 0x80030002 }
    (fun t => t.pc == 0x80000080 && t.cop0.cause == 0x10 && t.cop0.epc == 0x80030002 &&
      t.cop0.badVaddr == 0x80030002 && t.busCalls == []) = true := by decide +kernel

/-- S16, step 2: a load in flight commits in the step that traps. -/
theorem test_load_across_trap : answers { start 0x0000000C 0x40000000 [(2, 0xAA)] with
      ldCur := some ⟨2, 0x44332211⟩ }
    (fun t => t.pc == 0x80000080 && t.readReg 2 == 0x44332211 && t.ldCur == none) = true := by
  decide +kernel

/-- I4, step 2: an interrupt with a branch pending; the word at the vector runs in the same step. -/
theorem test_interrupt_in_slot : answers { start 0x24020001 0x40000401 [] with
      bdPending := true, bdTarget := 0x80020000, irqLevels := [true] }
    (fun t => t.pc == 0x80000084 && t.readReg 2 == 0 && t.cop0.sr == 0x40000404 &&
      t.cop0.cause == 0x80000400 && t.cop0.epc == 0x8000FFFC && t.cop0.tar == 0x80020000) = true := by
  decide +kernel

/-- I2, step 1: the line shows in CAUSE where it is masked. -/
theorem test_masked_line : answers { start 0 0x40000400 [] with irqLevels := [true] }
    (fun t => t.pc == 0x80010004 && t.cop0.cause == 0x400 && t.cop0.epc == 0) = true := by
  decide +kernel

/-- I6: the test after an SR write. -/
theorem test_interrupt_after_write : answers { start 0x40826000 0x400 [(2, 0x401)] with
      irqLevels := [true] }
    (fun t => t.pc == 0x80000080 && t.cop0.sr == 0x404 && t.cop0.cause == 0x400 &&
      t.cop0.epc == 0x80010004) = true := by decide +kernel

/-- I8, step 2: the SR write in a delay slot; the jump resolves first. -/
theorem test_interrupt_after_slot : answers { start 0x40826000 0x40000400 [(2, 0x40000401)] with
      irqLevels := [true], bdPending := true, bdTarget := 0x80020000 }
    (fun t => t.pc == 0x80000080 && t.cop0.epc == 0x80020000 && t.cop0.tar == 0 &&
      !t.cop0.cause.getLsbD 31) = true := by decide +kernel

/-- R168: with the end at the next address, a run of one NOP comes to it; with a load still pending it does
not. -/
theorem test_run_ends :
    (match run 0x80010004 1 (start 0 0 []) with
      | .ended s => s.pc == 0x80010004
      | _ => false) = true ∧
    ({ start 0 0 [] with ldCur := some ⟨1, 2⟩ } : State).atEnd 0x80010000 = false := by decide +kernel

/-! ### Values that meet the hypotheses of the obligations

One theorem for each obligation with hypotheses, with every clause at a boundary of its range. -/

/-- `i` answers a next state with `p`. -/
def runsTo (i : Instr) (s : State) (p : State → Bool) : Bool :=
  match exec i s with
  | .next t => p t
  | .fault _ => false
  | .refused _ => false

theorem of_runsTo {i : Instr} {s : State} {p : State → Bool} (h : runsTo i s p = true) :
    ∃ t, exec i s = .next t ∧ p t = true := by
  unfold runsTo at h
  cases hs : exec i s with
  | next t => rw [hs] at h; exact ⟨t, rfl, h⟩
  | fault f => rw [hs] at h; cases h
  | refused r => rw [hs] at h; cases h

/-- A state in user mode without coprocessor 0, one with it, and one with the GTE. -/
def user : State := start 0 0x00000002 [(1, 5), (2, 7)]
def userCop0 : State := start 0 0x10000002 [(1, 5), (2, 7)]
def gteReady : State := start 0 0x40000000 [(1, 5), (2, 7)]

/-- DecodeEncode: well-formed terms of the rows that are checked, at the ends of their fields. -/
theorem witness_DecodeEncode :
    (Instr.reserved 0xFFFFFFFF).WellFormed ∧ (Instr.gteReserved 0x00).WellFormed ∧
      (Instr.cop0Reserved 0x1F 0x3F).WellFormed ∧ (Instr.cop0Reserved 0x01 0x00).WellFormed ∧
      (Instr.cop2Reserved 0x0F).WellFormed ∧ (Instr.add 31 31 31).WellFormed := by decide +kernel

/-- ReservedEncodingsTrap: a word for each clause, first and last of each list. -/
theorem witness_ReservedEncodingsTrap :
    (opcodeOf 0x50000000 ∈ reservedOpcodes ∧ opcodeOf 0xFC000000 ∈ reservedOpcodes) ∧
    (opcodeOf 0x00000001 = 0 ∧ functorOf 0x00000001 ∈ reservedFunctors ∧
      functorOf 0x0000003F ∈ reservedFunctors) ∧
    (opcodeOf 0x04020000 = 1 ∧ rtOf 0x04020000 ∉ regimmSelectors ∧
      rtOf 0x041F0000 ∉ regimmSelectors) ∧
    (opcodeOf 0x41000000 = 0x10 ∧ (0x41000000 : Word).getLsbD 25 = false ∧
      rsOf 0x41000000 ∉ cop0Moves ∧ gteReady.cop0Usable = true ∧ userCop0.cop0Usable = true) ∧
    (opcodeOf 0x42000001 = 0x10 ∧ (0x42000001 : Word).getLsbD 25 = true ∧
      functorOf 0x42000001 ≠ 0x10) ∧
    (opcodeOf 0x49000000 = 0x12 ∧ (0x49000000 : Word).getLsbD 25 = false ∧
      rsOf 0x49000000 ∉ cop2Moves ∧ gteReady.gteUsable = true) ∧
    (opcodeOf 0x4A000000 = 0x12 ∧ (0x4A000000 : Word).getLsbD 25 = true ∧
      functorOf 0x4A000000 ∉ gteCommands ∧ functorOf 0x4A00003C ∉ gteCommands) := by
  decide +kernel

/-- GteCommandNumbers, and every `CommandRow`: a word for each listed number, and an unlisted one. -/
theorem witness_GteCommandNumbers :
    (∀ c ∈ gteCommands, opcodeOf (0x4A000000 ||| c.setWidth 32) = 0x12 ∧
      (0x4A000000 ||| c.setWidth 32 : Word).getLsbD 25 = true ∧
      functorOf (0x4A000000 ||| c.setWidth 32) = c) ∧
    functorOf 0x4A00003C ∉ gteCommands := by decide +kernel

/-- The rows of opcode 0 (`SpecialRow`), of a primary opcode (`ImmediateRow`, `OpcodeRow`), of opcode 1
(`RegimmRow`) and of a coprocessor move (`MoveRow`), wherever an obligation states them: a word for
every functor, opcode and selector. -/
theorem witness_rows :
    (∀ f : BitVec 6, opcodeOf (f.setWidth 32) = 0 ∧ functorOf (f.setWidth 32) = f) ∧
    (∀ op : BitVec 6, opcodeOf (op.setWidth 32 <<< 26) = op) ∧
    (∀ sel : BitVec 5, opcodeOf (0x04000000 ||| sel.setWidth 32 <<< 16) = 1 ∧
      rtOf (0x04000000 ||| sel.setWidth 32 <<< 16) = sel) ∧
    (∀ sub : BitVec 5, opcodeOf (0x40000000 ||| sub.setWidth 32 <<< 21) = 0x10 ∧
      rsOf (0x40000000 ||| sub.setWidth 32 <<< 21) = sub) ∧
    (∀ sub : BitVec 5, opcodeOf (0x48000000 ||| sub.setWidth 32 <<< 21) = 0x12 ∧
      rsOf (0x48000000 ||| sub.setWidth 32 <<< 21) = sub) := by decide +kernel

/-- ResetValues: a mapped COP0 number of each value, and port numbers other than 31. -/
theorem witness_ResetValues :
    Cop0.read 15 State.reset.cop0 = some 2 ∧ Cop0.read 3 State.reset.cop0 = some 0 ∧
      (0 : BitVec 6) ≠ 31 ∧ (63 : BitVec 6) ≠ 31 := by decide +kernel

/-- StepKeepsInvariant: the invariant holds, with a branch pending too, in a state whose step completes. -/
theorem witness_StepKeepsInvariant : ∃ s t : State, s.Inv ∧ s.bdPending = true ∧ step s = .next t := by
  obtain ⟨t, h, -⟩ := of_answers (s := { gteReady with bdPending := true, bdTarget := 0x80020000 })
    (p := fun _ => true) (by decide +kernel)
  refine ⟨_, t, ?_, rfl, h⟩
  constructor <;> decide +kernel

/-- StepRunsDecoded: an aligned program counter, and bytes that decode. -/
theorem witness_StepRunsDecoded : ∃ (s : State) (i : Instr), s.fatal = false ∧
    misalignedWord s.beforeFetch.pc = false ∧
    decodeBytes [s.beforeFetch.mem.readByte s.beforeFetch.pc,
      s.beforeFetch.mem.readByte (s.beforeFetch.pc + 1),
      s.beforeFetch.mem.readByte (s.beforeFetch.pc + 2),
      s.beforeFetch.mem.readByte (s.beforeFetch.pc + 3)] = .ok (i, []) :=
  ⟨start 0x00221820 0 [], .add 1 2 3, by decide +kernel⟩

/-- MisalignedFetchTraps: both clauses, and the branch clause of the first. -/
theorem witness_MisalignedFetchTraps :
    (∃ s : State, s.fatal = false ∧ misalignedWord s.beforeFetch.pc = true ∧
      s.beforeFetch.bdPending = false) ∧
    (∃ s t : State, s.fatal = false ∧ misalignedWord s.beforeFetch.pc = false ∧ step s = .next t) := by
  refine ⟨⟨{ gteReady with pc := 0x80010001 }, by decide +kernel⟩, ?_⟩
  obtain ⟨t, h, -⟩ := of_answers (s := gteReady) (p := fun _ => true) (by decide +kernel)
  exact ⟨gteReady, t, rfl, by decide +kernel, h⟩

/-- InterruptBeforeFetch: the lowest and the highest interrupt bit, and each condition missing. -/
theorem witness_InterruptBeforeFetch :
    (∃ m : State, InterruptEnabled m ∧ m.cop0.sr = 0x101) ∧
    (∃ m : State, InterruptEnabled m ∧ m.cop0.sr = 0x8001) ∧
    (∃ m : State, ¬InterruptEnabled m ∧ m.cop0.sr = 0x8000) ∧
    (∃ m : State, ¬InterruptEnabled m ∧ m.cop0.sr = 0x0001) := by
  refine ⟨⟨{ State.reset with cop0 := { Cop0.reset with sr := 0x101, cause := 0x100 } },
      ⟨by decide +kernel, 8, by decide +kernel⟩, rfl⟩,
    ⟨{ State.reset with cop0 := { Cop0.reset with sr := 0x8001, cause := 0x8000 } },
      ⟨by decide +kernel, 15, by decide +kernel⟩, rfl⟩,
    ⟨{ State.reset with cop0 := { Cop0.reset with sr := 0x8000, cause := 0x8000 } },
      fun h => absurd h.1 (by decide +kernel), rfl⟩,
    ⟨{ State.reset with cop0 := { Cop0.reset with sr := 0x0001, cause := 0 } }, ?_, rfl⟩⟩
  rintro ⟨-, k, -, -, -, hk⟩
  exact absurd hk (by simp)

/-- MTC0 to SR with the line asserted (vectors I6, I8). -/
def statusWrite (pending : Bool) : State :=
  { start 0x40826000 0x400 [(2, 0x401)] with irqLevels := [true], bdPending := pending }

/-- A step with a branch pending or not, whose instruction traps or completes. -/
def resolveStep (pending traps : Bool) : State :=
  { start (if traps then 0x0000000C else 0) 0 [] with bdPending := pending }

/-- StatusWriteThenInterrupt: MTC0 to SR with the line asserted (vector I6), and the same in a delay
slot. -/
theorem witness_StatusWriteThenInterrupt (pending : Bool) : ∃ s u v : State, s.fatal = false ∧
    misalignedWord s.beforeFetch.pc = false ∧ s.beforeFetch.bdPending = pending ∧
    exec (decode s.beforeFetch.fetchWord) s.beforeFetch.noteFetch = .next u ∧
    u.srWritten = true ∧ InterruptEnabled u ∧
    v = u.commitPhase.resolvePhase s.beforeFetch.bdPending := by
  have hs : (statusWrite pending).fatal = false ∧
      misalignedWord (statusWrite pending).beforeFetch.pc = false ∧
      (statusWrite pending).beforeFetch.bdPending = pending := by
    revert pending
    decide +kernel
  obtain ⟨u, h, hu⟩ := of_runsTo (i := decode (statusWrite pending).beforeFetch.fetchWord)
    (s := (statusWrite pending).beforeFetch.noteFetch)
    (p := fun u => u.srWritten && (u.cop0.sr.getLsbD 0 && (u.cop0.sr.getLsbD 10
      && u.cop0.cause.getLsbD 10))) (by clear hs; revert pending; decide +kernel)
  simp only [Bool.and_eq_true] at hu
  exact ⟨_, u, _, hs.1, hs.2.1, hs.2.2, h, hu.1, ⟨hu.2.1, 10, by decide, by decide, hu.2.2⟩, rfl⟩

/-- CauseFollowsLine and CyclesAdvance: a step that completes. -/
theorem witness_CauseFollowsLine_CyclesAdvance : ∃ s t : State, step s = .next t := by
  obtain ⟨t, h, -⟩ := of_answers (s := gteReady) (p := fun _ => true) (by decide +kernel)
  exact ⟨_, t, h⟩

/-- PendingLoadCommits: a pending load of the last register, with an instruction that leaves it, one that
overtakes it at once, and one that does so by a delayed write. -/
theorem witness_PendingLoadCommits (w : Word)
    (h : w = 0x00000000 ∨ w = 0x241F0007 ∨ w = 0x8C1F0000) :
    ∃ (s t : State) (e : LoadEntry), s.fetchWord = w ∧ step s = .next t ∧ s.ldCur = some e ∧
      e.reg ≠ 0 := by
  obtain ⟨t, ht, -⟩ := of_answers (s := { start w 0 [] with ldCur := some ⟨31, 0x44332211⟩ })
    (p := fun _ => true) (by rcases h with rfl | rfl | rfl <;> decide +kernel)
  exact ⟨_, t, ⟨31, 0x44332211⟩, by rcases h with rfl | rfl | rfl <;> decide +kernel, ht, rfl,
    by decide +kernel⟩

/-- The second disjunct of PendingLoadCommits: the instructions of the last two words, which write
register 31. -/
theorem witness_PendingLoadCommits_writes :
    (decode 0x241F0007).writesNow = some 31 ∧ (decode 0x8C1F0000).writesLater = some 31 ∧
      (decode 0x00000000).writesNow = some 0 := by decide +kernel

/-- CancelledLoad: the second load of sequence S2. -/
theorem witness_CancelledLoad : ∃ (s t : State) (e : LoadEntry) (rs rt : RegIdx) (imm : BitVec 16),
    step s = .next t ∧ s.ldCur = some e ∧ e.reg = rt ∧
    misalignedWord s.beforeFetch.pc = false ∧ decode s.beforeFetch.fetchWord = .lw rs rt imm ∧
    misalignedWord (effectiveAddress rs imm s) = false := by
  obtain ⟨t, h, -⟩ := of_answers (s := { start 0x8C220004 0x40000000 [(1, 0x80001000), (2, 0xAA)] with
    ldCur := some ⟨2, 0x44332211⟩ }) (p := fun _ => true) (by decide +kernel)
  exact ⟨_, t, ⟨2, 0x44332211⟩, 1, 2, 4, h, rfl, rfl, by decide +kernel, by decide +kernel,
    by decide +kernel⟩

/-- BranchResolves: with a branch pending and without, an instruction that completes and one that
traps. -/
theorem witness_BranchResolves (pending traps : Bool) : ∃ s u : State, s.fatal = false ∧
    misalignedWord s.beforeFetch.pc = false ∧ s.beforeFetch.bdPending = pending ∧
    exec (decode s.beforeFetch.fetchWord) s.beforeFetch.noteFetch = .next u ∧
    u.trapped = traps ∧ (u.srWritten = true → ¬InterruptEnabled u) := by
  have hs : (resolveStep pending traps).fatal = false ∧
      misalignedWord (resolveStep pending traps).beforeFetch.pc = false ∧
      (resolveStep pending traps).beforeFetch.bdPending = pending := by
    revert pending traps
    decide +kernel
  obtain ⟨u, h, hu⟩ := of_runsTo (i := decode (resolveStep pending traps).beforeFetch.fetchWord)
    (s := (resolveStep pending traps).beforeFetch.noteFetch)
    (p := fun u => u.trapped == traps && !u.srWritten)
    (by clear hs; revert pending traps; decide +kernel)
  simp only [Bool.and_eq_true, beq_iff_eq, Bool.not_eq_true'] at hu
  exact ⟨_, u, hs.1, hs.2.1, hs.2.2, h, hu.1, fun hw => absurd (hu.2.symm.trans hw) (by decide)⟩

/-- StepStopsOnlyWhereSaid: each of the three stops is reached. -/
theorem witness_StepStopsOnlyWhereSaid :
    stops { gteReady with fatal := true } .coreFatal = true ∧
    stops (start 0x40020000 0 []) .unmappedCop0Register = true ∧
    stops { start 0x0800400C 0 [] with bdPending := true } .jumpInDelaySlot = true := by
  decide +kernel

/-- OnlyTheirFamiliesChange: an instruction that completes and meets every clause at once. -/
theorem witness_OnlyTheirFamiliesChange : ∃ (i : Instr) (s t : State), exec i s = .next t ∧
    i.family ≠ .mulDiv ∧ i.family.needsGte = false ∧ s.gteUsable = false ∧
    i.family.storesMemory = false ∧ i.family.callsBus = false ∧ i.family ≠ .cop0 ∧
    i.family ≠ .control ∧ s.trapped = false ∧ t.trapped = false := by
  obtain ⟨t, h, ht⟩ := of_runsTo (i := .addu 1 2 3) (s := user) (p := fun t => !t.trapped)
    (by decide +kernel)
  simp only [Bool.not_eq_true'] at ht
  exact ⟨_, _, t, h, by decide, by decide, by decide +kernel, by decide, by decide, by decide,
    by decide, rfl, ht⟩

/-- UserModeKeepsCop0: user mode without CU0, an instruction that completes and one that traps. -/
theorem witness_UserModeKeepsCop0 (i : Instr) (h : i = .addu 1 2 3 ∨ i = .mtc0 1 12) :
    ∃ s t : State, exec i s = .next t ∧ s.cop0.sr.getLsbD 1 = true ∧ s.cop0.sr.getLsbD 28 = false := by
  obtain ⟨t, ht, -⟩ := of_runsTo (i := i) (s := user) (p := fun _ => true)
    (by rcases h with rfl | rfl <;> decide +kernel)
  exact ⟨user, t, ht, by decide +kernel, by decide +kernel⟩

/-- TrapModeAndVector: both values of BEV. -/
theorem witness_TrapModeAndVector :
    State.reset.cop0.sr.getLsbD 22 = false ∧ (start 0 0x00400000 []).cop0.sr.getLsbD 22 = true := by
  decide +kernel

/-- SignedAddSub: sums and differences at both ends of the signed range, and one past each. -/
theorem witness_SignedAddSub :
    (∃ (s : State) (v : Word), v.toInt = 0x7FFFFFFF ∧
      v.toInt = (s.readReg 1).toInt + (s.readReg 2).toInt) ∧
    (∃ (s : State) (v : Word), v.toInt = -0x80000000 ∧
      v.toInt = (s.readReg 1).toInt - (s.readReg 2).toInt) ∧
    (∃ (s : State) (v : Word), v.toInt = (s.readReg 1).toInt + (0x8000 : BitVec 16).toInt) ∧
    (∃ s : State, Outside (-0x80000000) 0x7FFFFFFF ((s.readReg 1).toInt + (s.readReg 2).toInt)) ∧
    (∃ s : State, Outside (-0x80000000) 0x7FFFFFFF ((s.readReg 1).toInt - (s.readReg 2).toInt)) ∧
    (∃ s : State, Outside (-0x80000000) 0x7FFFFFFF
      ((s.readReg 1).toInt + (0x8000 : BitVec 16).toInt)) := by
  refine ⟨⟨start 0 0 [(1, 0x7FFFFFFE), (2, 1)], 0x7FFFFFFF, ?_, ?_⟩,
    ⟨start 0 0 [(1, 0x80000001), (2, 1)], 0x80000000, ?_, ?_⟩, ⟨start 0 0 [], 0xFFFF8000, ?_⟩,
    ⟨start 0 0 [(1, 0x7FFFFFFF), (2, 1)], .inr ?_⟩, ⟨start 0 0 [(1, 0x80000000), (2, 1)], .inl ?_⟩,
    ⟨start 0 0 [(1, 0x80007FFF)], .inl ?_⟩⟩
  all_goals decide +kernel

/-- DivideResults: an ordinary divisor, a zero divisor, and the one overflowing quotient. -/
theorem witness_DivideResults :
    (∃ s : State, s.readReg 2 ≠ 0 ∧ ¬(s.readReg 1 = 0x80000000 ∧ s.readReg 2 = 0xFFFFFFFF)) ∧
    (∃ s : State, s.readReg 2 = 0) ∧
    (∃ s : State, s.readReg 1 = 0x80000000 ∧ s.readReg 2 = 0xFFFFFFFF) :=
  ⟨⟨start 0 0 [(1, 0x80000001), (2, 0xFFFFFFFF)], by decide +kernel⟩, ⟨start 0 0 [], by decide +kernel⟩,
    ⟨start 0 0 [(1, 0x80000000), (2, 0xFFFFFFFF)], by decide +kernel⟩⟩

/-- JumpsRecordTarget: no branch pending, and the words of the J format. -/
theorem witness_JumpsRecordTarget :
    State.reset.bdPending = false ∧ opcodeOf 0x0BFFFFFF = 2 ∧ opcodeOf 0x0C000000 = 3 := by
  decide +kernel

/-- BranchesOnCondition, LinkingBranches: no branch pending, every condition and its negation, at the
value next to its boundary. -/
theorem witness_BranchesOnCondition_LinkingBranches : ∃ s : State, s.bdPending = false ∧
    s.readReg 1 = s.readReg 0 ∧ s.readReg 1 ≠ s.readReg 2 ∧
    (s.readReg 1).toInt ≤ 0 ∧ ¬(s.readReg 2).toInt ≤ 0 ∧ (s.readReg 2).toInt > 0 ∧
    ¬(s.readReg 1).toInt > 0 ∧ (s.readReg 3).toInt < 0 ∧ ¬(s.readReg 1).toInt < 0 ∧
    (s.readReg 1).toInt ≥ 0 ∧ ¬(s.readReg 3).toInt ≥ 0 :=
  ⟨start 0 0 [(2, 1), (3, 0xFFFFFFFF)], by decide +kernel⟩

/-- JumpInDelaySlotStops: a branch pending, and the same conditions. -/
theorem witness_JumpInDelaySlotStops : ∃ s : State, s.bdPending = true ∧
    s.readReg 1 = s.readReg 0 ∧ s.readReg 1 ≠ s.readReg 2 ∧ (s.readReg 1).toInt ≤ 0 ∧
    (s.readReg 2).toInt > 0 ∧ (s.readReg 3).toInt < 0 ∧ (s.readReg 1).toInt ≥ 0 :=
  ⟨{ start 0 0 [(2, 1), (3, 0xFFFFFFFF)] with bdPending := true }, by decide +kernel⟩

/-- LoadResults: aligned addresses, the last of the address space too, and misaligned ones. -/
theorem witness_LoadResults :
    (∃ (s : State) (a : Word), a = s.readReg 1 + BitVec.ofInt 32 (0xFFFC : BitVec 16).toInt ∧
      a = 0xFFFFFFFC ∧ a.toNat % 2 = 0 ∧ a.toNat % 4 = 0) ∧
    (∃ (s : State) (a : Word), a = s.readReg 1 + BitVec.ofInt 32 (0x0001 : BitVec 16).toInt ∧
      a.toNat % 2 ≠ 0 ∧ a.toNat % 4 ≠ 0) ∧
    (∃ (s : State) (a : Word), a = s.readReg 1 + BitVec.ofInt 32 (0x0002 : BitVec 16).toInt ∧
      a.toNat % 2 = 0 ∧ a.toNat % 4 ≠ 0) :=
  ⟨⟨start 0 0 [], 0xFFFFFFFC, by decide +kernel⟩, ⟨start 0 0 [], 1, by decide +kernel⟩,
    ⟨start 0 0 [], 2, by decide +kernel⟩⟩

/-- UnalignedLoadLanes: the value merged into comes from the queue, and from the register, at the first
and the last lane. -/
theorem witness_UnalignedLoadLanes :
    (∃ (s : State) (a old : Word) (k : Nat),
      a = s.readReg 1 + BitVec.ofInt 32 (0x0003 : BitVec 16).toInt ∧ k = a.toNat % 4 ∧ k = 3 ∧
      MergesInto 2 s old) ∧
    (∃ (s : State) (a old : Word) (k : Nat),
      a = s.readReg 1 + BitVec.ofInt 32 (0x0000 : BitVec 16).toInt ∧ k = a.toNat % 4 ∧ k = 0 ∧
      MergesInto 2 s old) := by
  refine ⟨⟨{ start 0 0 [] with ldCur := some ⟨2, 9⟩ }, 3, 9, 3, by decide +kernel, rfl, rfl, ?_, ?_⟩,
    ⟨start 0 0 [(2, 7)], 0, 7, 0, by decide +kernel, rfl, rfl, ?_, ?_⟩⟩
  · intro p h; cases h; rfl
  · intro h; exact absurd rfl (h 9)
  · intro p h; cases h
  · intro _; decide +kernel

/-- UnalignedLoadPair: offsets three apart across the sign of the offset. -/
theorem witness_UnalignedLoadPair : ∃ (imm imm3 : BitVec 16) (s : State) (a : Word), s.ldCur = none ∧
    imm3.toInt = imm.toInt + 3 ∧ a = s.readReg 1 + BitVec.ofInt 32 imm.toInt :=
  ⟨0xFFFF, 0x0002, start 0 0 [], 0xFFFFFFFF, by decide +kernel⟩

/-- StoreResults, PartialStoreLanes and GteLoadStore: canonical memory, the GTE usable (`user`, with CU2
clear, is the other case), and an address in each lane. -/
theorem witness_StoreResults_PartialStoreLanes_GteLoadStore (k : BitVec 2) :
    ∃ (s : State) (v : Word) (n : BitVec 6), s.mem.wf = true ∧ v = s.readReg 31 ∧
      s.cop0.sr.getLsbD 30 = true ∧ n.toNat = (31 : RegIdx).toNat ∧
      (effectiveAddress 1 (k.setWidth 16) s).toNat % 4 = k.toNat := by
  refine ⟨start 0 0x40000000 [(1, 0xFFFFFFFC), (31, 9)], 9, 31, by decide +kernel, by decide +kernel,
    by decide +kernel, rfl, ?_⟩
  revert k
  decide +kernel

/-- Mfc0Reads, Mtc0Writes, RfePops: coprocessor 0 usable in kernel mode and, with CU0, in user mode, the
unmapped numbers at both ends, and RFE's word. -/
theorem witness_Mfc0Reads_Mtc0Writes_RfePops :
    gteReady.cop0Usable = true ∧ userCop0.cop0Usable = true ∧
    (0 : RegIdx) ∉ ([3, 5, 6, 7, 8, 9, 11, 12, 13, 14, 15] : List RegIdx) ∧
    (31 : RegIdx) ∉ ([3, 5, 6, 7, 8, 9, 11, 12, 13, 14, 15] : List RegIdx) ∧
    opcodeOf 0x42000010 = 0x10 ∧ (0x42000010 : Word).getLsbD 25 = true ∧
    functorOf 0x42000010 = 0x10 ∧
    user.cop0.sr.getLsbD 1 = true ∧ user.cop0.sr.getLsbD 28 = false := by decide +kernel

/-- Cop0UnusableTraps: user mode without CU0, and a word of opcode 0x10. -/
theorem witness_Cop0UnusableTraps :
    user.cop0.sr.getLsbD 1 = true ∧ user.cop0.sr.getLsbD 28 = false ∧ opcodeOf 0x43FFFFFF = 0x10 := by
  decide +kernel

/-- MovesFromGte, MovesToGte: the GTE usable and not, and the port numbers of the first and the last
field. -/
theorem witness_MovesFromGte_MovesToGte : gteReady.cop0.sr.getLsbD 30 = true ∧
    user.cop0.sr.getLsbD 30 = false ∧
    (0 : BitVec 6).toNat = (0 : RegIdx).toNat ∧ (32 : BitVec 6).toNat = 32 + (0 : RegIdx).toNat ∧
    (31 : BitVec 6).toNat = (31 : RegIdx).toNat ∧ (63 : BitVec 6).toNat = 32 + (31 : RegIdx).toNat := by
  decide +kernel

/-- GteUnusableTraps: CU2 clear, an instruction of each family that needs it, and a word of each opcode. -/
theorem witness_GteUnusableTraps : user.cop0.sr.getLsbD 30 = false ∧
    (∀ i ∈ [Instr.mfc2 1 2, .lwc2 1 2 3, .swc2 1 2 3, .nclip, .gteReserved 0, .cop2Reserved 1],
      i.family.needsGte = true) ∧
    opcodeOf 0x48020000 = 0x12 ∧ opcodeOf 0xC8200001 = 0x32 ∧ opcodeOf 0xE8200002 = 0x3A := by
  decide +kernel

/-- PortReadBack: no port number falls under two clauses of the read-back table, and every number falls
under one. -/
theorem witness_PortReadBack : ∀ n : Fin 64,
    ([decide (n.val ∈ [1, 3, 5, 8, 9, 10, 11, 36, 44, 52, 58, 59, 61, 62]),
      decide (n.val ∈ [7, 16, 17, 18, 19]), decide (n.val = 28), decide (n.val ∈ [29, 31]),
      decide (n.val = 63), decide (n.val ∉ [1, 3, 5, 7, 8, 9, 10, 11, 16, 17, 18, 19, 28, 29, 31, 36,
        44, 52, 58, 59, 61, 62, 63])].count true) = 1 := by decide +kernel

/-- PortReadBack, the side effects: numbers that meet each clause, at both values of the parameter of
number 14, and a number that each kind of write leaves alone. -/
theorem witness_PortReadBack_effects :
    portTouched true 14 = [12, 13, 14, 15] ∧ portTouched false 14 = [14, 15] ∧
    portTouched false 15 = [12, 13, 14, 15] ∧ (0 : BitVec 6).toNat ∉ portTouched false 15 ∧
    (63 : BitVec 6).toNat ∉ portTouched true 28 ∧ (29 : BitVec 6).toNat ∉ portTouched true 29 ∧
    (12 : BitVec 6).toNat ∉ portTouched false 14 := by decide

/-- PortReadBack, the count of leading bits: both of its ends. -/
theorem witness_PortReadBack_leadingBits :
    ({ Gte.reset with lzcs := 0x7FFFFFFF } : Gte).portRead 31 = 1 ∧
    ({ Gte.reset with lzcs := 0xFFFFFFFF } : Gte).portRead 31 = 32 := by decide +kernel

/-- GteCommandFrames and the results of the commands: the GTE usable, both shifts, and the families. -/
theorem witness_GteCommandFrames_ScalarGteResults_LaneGteResults_TripleCommands :
    gteReady.cop0.sr.getLsbD 30 = true ∧ (Instr.rtpt true false).family = .gteCommand ∧
    (12 : Nat) = (if true then 12 else 0) ∧ (0 : Nat) = (if false then 12 else 0) ∧
    (gteStart 0 g0).gte.ir1.toInt = 0x100 ∧ (gteStart 0 g0).cop0.sr.getLsbD 30 = true := by
  decide +kernel

/-- The edges of `Fits44`, and what the accumulator keeps of a value just past each and of the two ends. -/
theorem witness_Fits44 :
    Fits44 (2 ^ 43 - 1) ∧ Fits44 (-2 ^ 43) ∧ ¬Fits44 (2 ^ 43) ∧
    Wraps44 (2 ^ 43) (-2 ^ 43) ∧ Wraps44 (-2 ^ 43 - 1) (2 ^ 43 - 1) ∧
    Wraps44 (2 ^ 43 - 1) (2 ^ 43 - 1) ∧ Wraps44 (-2 ^ 43) (-2 ^ 43) := by
  unfold Wraps44 Fits44
  decide +kernel

/-- MvmvaResults: the sums from G0, and the first sums of the far colour. -/
theorem witness_MvmvaResults : ∃ (s : State) (r1 r2 r3 v w a b x fa : IVec),
    s.cop0.sr.getLsbD 30 = true ∧ selectsRows .garbage s.gte r1 r2 r3 ∧ selectsVector .ir s.gte v ∧
    w = ⟨s.gte.tr.x.toInt, s.gte.tr.y.toInt, s.gte.tr.z.toInt⟩ ∧ RowSums r1 r2 r3 v w a b x ∧
    Wraps44 (s.gte.fc.x.toInt * 2 ^ 12 + r1.x * v.x) fa.x ∧
    Wraps44 (s.gte.fc.y.toInt * 2 ^ 12 + r2.x * v.x) fa.y ∧
    Wraps44 (s.gte.fc.z.toInt * 2 ^ 12 + r3.x * v.x) fa.z := by
  refine ⟨gteStart 0 g0, ⟨-2048, 2048, 2048⟩, ⟨0, 0, 0⟩, ⟨4096, 4096, 4096⟩, ⟨0x100, 0x200, 0x300⟩,
    ⟨0, 0, 500⟩, ⟨-524288, 0, 3096576⟩, ⟨524288, 0, 5193728⟩, ⟨2097152, 0, 8339456⟩,
    ⟨16187392, 8388608, 1048576⟩, by decide +kernel, ⟨by decide +kernel, by decide +kernel,
    by decide +kernel⟩, ?_, by decide +kernel, ?_, ?_⟩
  · unfold selectsVector
    decide +kernel
  · constructor <;> constructor <;> (try unfold Wraps44 Fits44) <;> decide +kernel
  · unfold Wraps44 Fits44
    decide +kernel

/-- MvmvaResults, RtpsResults: the first sum of a row passes 44 bits and wraps. -/
theorem witness_RowSum_wraps : ∃ (s : State) (r1 r2 r3 v : IVec) (a b x : Int),
    s.cop0.sr.getLsbD 30 = true ∧ selectsRows .rt s.gte r1 r2 r3 ∧ selectsVector .v0 s.gte v ∧
    ¬Fits44 (s.gte.tr.x.toInt * 2 ^ 12 + r1.x * v.x) ∧ RowSum s.gte.tr.x.toInt r1 v a b x := by
  refine ⟨gteStart 0 { g0 with tr := ⟨0x7FFFFFFF, 0, 0⟩ }, ⟨4096, 0, 0⟩, ⟨0, 4096, 0⟩, ⟨0, 0, 4096⟩,
    ⟨100, -50, 200⟩, 2 ^ 43 - 2 ^ 12 + 409600 - 2 ^ 44, 2 ^ 43 - 2 ^ 12 + 409600 - 2 ^ 44,
    2 ^ 43 - 2 ^ 12 + 409600 - 2 ^ 44, by decide +kernel, ⟨by decide +kernel, by decide +kernel,
    by decide +kernel⟩, ?_, ?_, ?_⟩
  · unfold selectsVector
    decide +kernel
  · unfold Fits44
    decide +kernel
  · constructor <;> (try unfold Wraps44 Fits44) <;> decide +kernel

/-- InterpolationResults: each of the three commands, with the operand it interpolates. -/
theorem witness_InterpolationResults (sf lm : Bool) :
    ∀ i ∈ [Instr.dpcs sf lm, .dcpl sf lm, .intpl sf lm],
    ∃ (s : State) (r g b m1 m2 m3 : Int), s.cop0.sr.getLsbD 30 = true ∧
      r = (s.gte.rgbc.extractLsb' 0 8).toNat ∧ g = (s.gte.rgbc.extractLsb' 8 8).toNat ∧
      b = (s.gte.rgbc.extractLsb' 16 8).toNat ∧
      (i = .dpcs sf lm ∧ m1 = r * 2 ^ 16 ∧ m2 = g * 2 ^ 16 ∧ m3 = b * 2 ^ 16 ∨
        i = .dcpl sf lm ∧ m1 = r * s.gte.ir1.toInt * 16 ∧ m2 = g * s.gte.ir2.toInt * 16 ∧
          m3 = b * s.gte.ir3.toInt * 16 ∨
        i = .intpl sf lm ∧ m1 = s.gte.ir1.toInt * 2 ^ 12 ∧ m2 = s.gte.ir2.toInt * 2 ^ 12 ∧
          m3 = s.gte.ir3.toInt * 2 ^ 12) := by
  intro i hi
  have hr : (gteStart 0 g0).cop0.sr.getLsbD 30 = true := by decide +kernel
  simp only [List.mem_cons, List.not_mem_nil, or_false] at hi
  rcases hi with rfl | rfl | rfl
  · exact ⟨_, _, _, _, _, _, _, hr, rfl, rfl, rfl, .inl ⟨rfl, rfl, rfl, rfl⟩⟩
  · exact ⟨_, _, _, _, _, _, _, hr, rfl, rfl, rfl, .inr (.inl ⟨rfl, rfl, rfl, rfl⟩)⟩
  · exact ⟨_, _, _, _, _, _, _, hr, rfl, rfl, rfl, .inr (.inr ⟨rfl, rfl, rfl, rfl⟩)⟩

/-- LightingStages: the light matrix alone, and the colour matrix alone, complete from G0. -/
theorem witness_LightingStages (sf lm : Bool) : ∃ (s l c : State) (sh : Nat),
    s.cop0.sr.getLsbD 30 = true ∧ sh = (if sf then 12 else 0) ∧
    exec (.mvmva sf .llm .v0 .none lm) s = .next l ∧
    exec (.mvmva sf .lcm .ir .bk lm) s = .next c := by
  obtain ⟨l, hl, -⟩ := of_runsTo (i := .mvmva sf .llm .v0 .none lm) (s := gteStart 0 g0)
    (p := fun _ => true) (by revert sf lm; decide +kernel)
  obtain ⟨c, hc, -⟩ := of_runsTo (i := .mvmva sf .lcm .ir .bk lm) (s := gteStart 0 g0)
    (p := fun _ => true) (by clear hl; revert sf lm; decide +kernel)
  exact ⟨_, l, c, _, by decide +kernel, rfl, hl, hc⟩

/-- RtpsResults: G0 meets every hypothesis. -/
theorem witness_RtpsResults : ∃ (s : State) (r1 r2 r3 v w a b x : IVec) (e z : Int),
    s.cop0.sr.getLsbD 30 = true ∧ selectsRows .rt s.gte r1 r2 r3 ∧ selectsVector .v0 s.gte v ∧
    w = ⟨s.gte.tr.x.toInt, s.gte.tr.y.toInt, s.gte.tr.z.toInt⟩ ∧ RowSums r1 r2 r3 v w a b x ∧
    Wraps44 x.z e ∧ z = e / 2 ^ 12 := by
  refine ⟨gteStart 0 g0, ⟨4096, 0, 0⟩, ⟨0, 4096, 0⟩, ⟨0, 0, 4096⟩, ⟨100, -50, 200⟩, ⟨0, 0, 500⟩,
    ⟨409600, 0, 2048000⟩, ⟨409600, -204800, 2048000⟩, ⟨409600, -204800, 2867200⟩, 2867200, 700,
    by decide +kernel, ⟨by decide +kernel, by decide +kernel, by decide +kernel⟩, ?_,
    by decide +kernel, ?_, ?_, by decide⟩
  · unfold selectsVector
    decide +kernel
  · constructor <;> constructor <;> (try unfold Wraps44 Fits44) <;> decide +kernel
  · unfold Wraps44 Fits44
    decide +kernel

/-- DividerBounds: the short cut and the table path, at the boundary and at both ends, and the value of
the table path for the smallest and the largest divisor. -/
theorem witness_DividerBounds :
    (200 < 2 ^ 16 ∧ 100 < 2 ^ 16 ∧ 2 * 100 ≤ 200) ∧ (0 < 2 ^ 16 ∧ 2 * 0 ≤ 0) ∧
    (199 < 2 * 100) ∧ (65535 < 2 ^ 16 ∧ 65535 < 2 * 65535) ∧ (256 ≤ 256) ∧
    (∀ p ∈ [((1 : Nat), (1 : Nat), (15 : Nat)), (65535, 65535, 0)], ∃ d1 i u t r : Int,
      p.1 < 2 * p.2.1 ∧ d1 = p.2.1 * 2 ^ p.2.2 ∧ 2 ^ 15 ≤ d1 ∧ d1 < 2 ^ 16 ∧
      i = (d1 - 0x7FC0) / 2 ^ 7 ∧
      u = max 0 ((0x40000 / (i + 0x100) + 1) / 2 - 0x101) + 0x101 ∧
      t = (0x2000080 - d1 * u) / 2 ^ 8 ∧ r = (0x80 + t * u) / 2 ^ 8) := by
  refine ⟨by decide, by decide, by decide, by decide, by decide, ?_⟩
  intro p hp
  rcases List.mem_pair.mp hp with rfl | rfl <;>
    exact ⟨_, _, _, _, _, by decide, rfl, by decide, by decide, rfl, rfl, rfl, rfl⟩

end Sys2Proof.Tests
end

section
/-! ### The flags of a command do not depend on the flags before it -/

namespace Sys2Proof.Machine

/-- A change of FLAG that every raised flag goes through: bits 30:12 are raised alike before and after. -/
structure FlagMap where
  /-- What becomes of FLAG. -/
  map : Word → Word
  /-- Raising a stored bit before the change is raising it after. -/
  map_raise : ∀ b, 12 ≤ b → b ≤ 30 → ∀ w, map (w ||| 1#32 <<< b) = map w ||| 1#32 <<< b

/-- FLAG joined with the bits of `a`. -/
def FlagMap.join (a : Word) : FlagMap where
  map w := a ||| w
  map_raise _ _ _ _ := (BitVec.or_assoc ..).symm

/-- FLAG cut to the bits R66 stores. -/
def FlagMap.stored : FlagMap where
  map w := w &&& ~~~0x80000FFF#32
  map_raise b hb hb' w := by
    rw [BitVec.and_or_distrib_right]
    congr 1
    interval_cases b <;> decide

/-- The GTE with FLAG changed. -/
@[simps] def Gte.mapFlag (φ : FlagMap) (g : Gte) : Gte := { g with flag := φ.map g.flag }

section
variable (φ : FlagMap) (g : Gte)

@[simp] theorem Gte.irAt_mapFlag (l : Lane) : (g.mapFlag φ).irAt l = g.irAt l := by cases l <;> rfl
@[simp] theorem Gte.macAt_mapFlag (l : Lane) : (g.mapFlag φ).macAt l = g.macAt l := by
  cases l <;> rfl
@[simp] theorem Gte.irVec_mapFlag : (g.mapFlag φ).irVec = g.irVec := rfl
@[simp] theorem Gte.macVec_mapFlag : (g.mapFlag φ).macVec = g.macVec := rfl
@[simp] theorem Gte.quotient_mapFlag : (g.mapFlag φ).quotient = g.quotient := rfl
@[simp] theorem Gte.signedArea_mapFlag : (g.mapFlag φ).signedArea = g.signedArea := rfl
@[simp] theorem Gte.colourProduct_mapFlag : (g.mapFlag φ).colourProduct = g.colourProduct := rfl
@[simp] theorem Gte.selectMatrix_mapFlag (mx : MatrixSel) :
    (g.mapFlag φ).selectMatrix mx = g.selectMatrix mx := by cases mx <;> rfl
@[simp] theorem Gte.selectVector_mapFlag (vx : VectorSel) :
    (g.mapFlag φ).selectVector vx = g.selectVector vx := by cases vx <;> rfl

/-! The primitives -/

theorem Gte.raiseFlag_mapFlag (c : Bool) {b : Nat} (hb : 12 ≤ b) (hb' : b ≤ 30) :
    (g.mapFlag φ).raiseFlag c b = (g.raiseFlag c b).mapFlag φ := by
  cases c
  · rfl
  · simp [Gte.raiseFlag, Gte.mapFlag, φ.map_raise b hb hb']

@[simp] theorem Gte.checkMac0_mapFlag (x : Int) :
    (g.mapFlag φ).checkMac0 x = (g.checkMac0 x).mapFlag φ := by
  simp [Gte.checkMac0, Gte.raiseFlag_mapFlag]

@[simp] theorem Gte.checkMac_mapFlag (l : Lane) (x : Int) :
    (g.mapFlag φ).checkMac l x = (g.checkMac l x).mapFlag φ := by
  cases l <;> simp [Gte.checkMac, Lane.number, Gte.raiseFlag_mapFlag]

@[simp] theorem Gte.flagA_mapFlag (l : Lane) (lm : Bool) (v : Int) :
    (g.mapFlag φ).flagA l lm v = (g.flagA l lm v).mapFlag φ := by
  cases l <;> simp [Gte.flagA, Lane.number, Gte.raiseFlag_mapFlag]

@[simp] theorem Gte.flagB_mapFlag (l : Lane) (v : Int) :
    (g.mapFlag φ).flagB l v = (g.flagB l v).mapFlag φ := by
  cases l <;> simp [Gte.flagB, Lane.number, Gte.raiseFlag_mapFlag]

@[simp] theorem Gte.flagC_mapFlag (v : Int) : (g.mapFlag φ).flagC v = (g.flagC v).mapFlag φ := by
  simp [Gte.flagC, Gte.raiseFlag_mapFlag]

@[simp] theorem Gte.flagD_mapFlag (x y : Int) :
    (g.mapFlag φ).flagD x y = (g.flagD x y).mapFlag φ := by
  simp [Gte.flagD, Gte.raiseFlag_mapFlag]

@[simp] theorem Gte.flagE_mapFlag (v : Int) : (g.mapFlag φ).flagE v = (g.flagE v).mapFlag φ := by
  simp [Gte.flagE, Gte.raiseFlag_mapFlag]

@[simp] theorem Gte.flagDivide_mapFlag : (g.mapFlag φ).flagDivide = g.flagDivide.mapFlag φ := by
  simp [Gte.flagDivide, Gte.raiseFlag_mapFlag]

@[simp] theorem Gte.putMac_mapFlag (l : Lane) (v : Word) :
    (g.mapFlag φ).putMac l v = (g.putMac l v).mapFlag φ := rfl

@[simp] theorem Gte.putIr_mapFlag (l : Lane) (v : Half) :
    (g.mapFlag φ).putIr l v = (g.putIr l v).mapFlag φ := rfl

@[simp] theorem Gte.setMac_mapFlag (l : Lane) (x : Int) (s : Nat) :
    (g.mapFlag φ).setMac l x s = (g.setMac l x s).mapFlag φ := by simp [Gte.setMac]

@[simp] theorem Gte.setMac0_mapFlag (x : Int) :
    (g.mapFlag φ).setMac0 x = (g.setMac0 x).mapFlag φ := by
  rw [Gte.setMac0, Gte.checkMac0_mapFlag]
  rfl

@[simp] theorem Gte.setIr_mapFlag (l : Lane) (v : Int) (lm : Bool) :
    (g.mapFlag φ).setIr l v lm = (g.setIr l v lm).mapFlag φ := by simp [Gte.setIr]

@[simp] theorem Gte.setIr0_mapFlag (v : Int) : (g.mapFlag φ).setIr0 v = (g.setIr0 v).mapFlag φ := by
  rw [Gte.setIr0, Gte.flagE_mapFlag]
  rfl

@[simp] theorem Gte.setMacIr_mapFlag (l : Lane) (x : Int) (s : Nat) (lm : Bool) :
    (g.mapFlag φ).setMacIr l x s lm = (g.setMacIr l x s lm).mapFlag φ := by simp [Gte.setMacIr]

@[simp] theorem Gte.pushSz_mapFlag (v : Int) : (g.mapFlag φ).pushSz v = (g.pushSz v).mapFlag φ := by
  rw [Gte.pushSz, Gte.flagC_mapFlag]
  rfl

@[simp] theorem Gte.pushSxy_mapFlag (x y : Int) :
    (g.mapFlag φ).pushSxy x y = (g.pushSxy x y).mapFlag φ := by
  rw [Gte.pushSxy, Gte.flagD_mapFlag]
  rfl

@[simp] theorem Gte.pushRgb_mapFlag : (g.mapFlag φ).pushRgb = g.pushRgb.mapFlag φ := by
  simp only [Gte.pushRgb, Gte.flagB_mapFlag, Gte.mapFlag_mac1, Gte.mapFlag_mac2, Gte.mapFlag_mac3]
  rfl

/-- A loop over the lanes commutes with the change where its body does. -/
@[simp] theorem Gte.forLanes_mapFlag {f : Lane → Gte → Gte}
    (hf : ∀ l k, f l (Gte.mapFlag φ k) = (f l k).mapFlag φ) :
    (g.mapFlag φ).forLanes f = (g.forLanes f).mapFlag φ := by simp [Gte.forLanes, hf]

@[simp] theorem Gte.checkRow_mapFlag (l : Lane) (t : Option Int) (m v : IVec) :
    (g.mapFlag φ).checkRow l t m v = (g.checkRow l t m v).mapFlag φ := by
  cases t <;> simp [Gte.checkRow]

@[simp] theorem Gte.mulMat_mapFlag (m : IMat) (t : Option IVec) (v : IVec) (sh : Nat) (lm : Bool) :
    (g.mapFlag φ).mulMat m t v sh lm = (g.mulMat m t v sh lm).mapFlag φ := by simp [Gte.mulMat]

@[simp] theorem Gte.interp_mapFlag (m : IVec) (sh : Nat) (lm : Bool) :
    (g.mapFlag φ).interp m sh lm = (g.interp m sh lm).mapFlag φ := by
  simp [Gte.interp, Gte.interpFar, Gte.interpNear]

theorem Gte.interp_macVec_mapFlag (sh : Nat) (lm : Bool) :
    (g.mapFlag φ).interp (g.mapFlag φ).macVec sh lm = (g.interp g.macVec sh lm).mapFlag φ :=
  Gte.interp_mapFlag φ g _ sh lm

/-! The commands -/

@[simp] theorem Gte.rtpTransform_mapFlag (v : Vec16) (sh : Nat) (lm : Bool) :
    (g.mapFlag φ).rtpTransform v sh lm = (g.rtpTransform v sh lm).mapFlag φ := by
  simp [Gte.rtpTransform, Gte.raiseFlag_mapFlag]

@[simp] theorem Gte.rtpScreen_mapFlag : (g.mapFlag φ).rtpScreen = g.rtpScreen.mapFlag φ := by
  simp [Gte.rtpScreen]

@[simp] theorem Gte.rtpDepth_mapFlag : (g.mapFlag φ).rtpDepth = g.rtpDepth.mapFlag φ := by
  simp [Gte.rtpDepth]

@[simp] theorem Gte.rtp_mapFlag (v : Vec16) (sh : Nat) (lm : Bool) :
    (g.mapFlag φ).rtp v sh lm = (g.rtp v sh lm).mapFlag φ := by simp [Gte.rtp]

@[simp] theorem Gte.rtpLast_mapFlag (v : Vec16) (sh : Nat) (lm : Bool) :
    (g.mapFlag φ).rtpLast v sh lm = (g.rtpLast v sh lm).mapFlag φ := by
  simp [Gte.rtpLast]

@[simp] theorem Gte.outerProduct_mapFlag (sh : Nat) (lm : Bool) :
    (g.mapFlag φ).outerProduct sh lm = (g.outerProduct sh lm).mapFlag φ := by
  simp [Gte.outerProduct]

@[simp] theorem Gte.multiplyAdd_mapFlag (mx : MatrixSel) (vx : VectorSel) (tx : TranslationSel)
    (sh : Nat) (lm : Bool) :
    (g.mapFlag φ).multiplyAdd mx vx tx sh lm = (g.multiplyAdd mx vx tx sh lm).mapFlag φ := by
  cases tx <;> simp [Gte.multiplyAdd, Gte.farColourRow]

@[simp] theorem Gte.square_mapFlag (sh : Nat) (lm : Bool) :
    (g.mapFlag φ).square sh lm = (g.square sh lm).mapFlag φ := by simp [Gte.square]

@[simp] theorem Gte.setAverage_mapFlag (r : Int) :
    (g.mapFlag φ).setAverage r = (g.setAverage r).mapFlag φ := by
  rw [Gte.setAverage, Gte.setMac0_mapFlag, Gte.flagC_mapFlag]
  rfl

@[simp] theorem Gte.depthCueColour_mapFlag (c : IVec) (sh : Nat) (lm : Bool) :
    (g.mapFlag φ).depthCueColour c sh lm = (g.depthCueColour c sh lm).mapFlag φ := by
  simp [Gte.depthCueColour]

@[simp] theorem Gte.depthCue_mapFlag (sh : Nat) (lm : Bool) :
    (g.mapFlag φ).depthCue sh lm = (g.depthCue sh lm).mapFlag φ := by simp [Gte.depthCue]

@[simp] theorem Gte.interpolate_mapFlag (sh : Nat) (lm : Bool) :
    (g.mapFlag φ).interpolate sh lm = (g.interpolate sh lm).mapFlag φ := by
  unfold Gte.interpolate
  rw [Gte.forLanes_mapFlag φ g (by simp)]
  exact Gte.interp_macVec_mapFlag φ _ sh lm

@[simp] theorem Gte.colourTransform_mapFlag (sh : Nat) (lm : Bool) :
    (g.mapFlag φ).colourTransform sh lm = (g.colourTransform sh lm).mapFlag φ := by
  simp [Gte.colourTransform]

@[simp] theorem Gte.light_mapFlag (v : Vec16) (sh : Nat) (lm : Bool) :
    (g.mapFlag φ).light v sh lm = (g.light v sh lm).mapFlag φ := by simp [Gte.light]

@[simp] theorem Gte.colourMul_mapFlag (sh : Nat) (lm : Bool) :
    (g.mapFlag φ).colourMul sh lm = (g.colourMul sh lm).mapFlag φ := by simp [Gte.colourMul]

@[simp] theorem Gte.scale_mapFlag (sh : Nat) (lm : Bool) :
    (g.mapFlag φ).scale sh lm = (g.scale sh lm).mapFlag φ := by simp [Gte.scale]

@[simp] theorem Gte.scaleAccumulate_mapFlag (sh : Nat) (lm : Bool) :
    (g.mapFlag φ).scaleAccumulate sh lm = (g.scaleAccumulate sh lm).mapFlag φ := by
  simp [Gte.scaleAccumulate]

end

end Sys2Proof.Machine
end

section
/-! ### The invariant, part by part -/

namespace Sys2Proof.Machine

/-- What the invariant says of CAUSE. -/
structure CauseOk (c : Word) : Prop where
  zeros : c &&& causeUnwritten = 0
  code : c.extractLsb' 2 5 ∈ raisedCodes
  coprocessor : c.extractLsb' 2 5 ≠ 11 → c.extractLsb' 28 2 = 0

/-- What the invariant says of the rest of the state, the queue and the program counter left out. -/
structure State.Stored (s : State) : Prop where
  memory : s.mem.wf = true
  zeroRegister : s.regs[0] = 0
  cause : CauseOk s.cop0.cause
  flagBits : s.gte.flag &&& 0x80000FFF = 0
  prid : s.cop0.prid = config.pridValue

/-- What holds while an instruction runs, after its fetch and before P4: `Stored`, and an aligned program
counter. -/
structure State.Running (s : State) : Prop where
  stored : s.Stored
  aligned : misalignedWord s.pc = false

/-- The invariant is `Stored`, an empty `ld_next` and an aligned delay slot. -/
theorem State.inv_iff {s : State} :
    s.Inv ↔ s.Stored ∧ s.ldNext = none ∧ (s.bdPending = true → misalignedWord s.pc = false) := by
  constructor
  · intro h
    exact ⟨⟨h.memory, h.zeroRegister, ⟨h.causeZeros, h.causeCode, h.causeCoprocessor⟩, h.flagBits,
      h.prid⟩, h.queue, h.delaySlot⟩
  · rintro ⟨⟨hm, hr, ⟨hz, hc, hp⟩, hf, hi⟩, hq, hd⟩
    exact ⟨hm, hr, hq, hd, hz, hc, hp, hf, hi⟩

/-! ### CAUSE -/

/-- The bits of CAUSE the invariant speaks of. -/
def causeChecked : Word := 0x7FFFF8FF

/-- A part of the bits of a mask is the same in words that agree under the mask. -/
theorem extractLsb'_congr_of_and {c d m : Word} {lo n : Nat} (h : d &&& m = c &&& m)
    (hm : ∀ i < n, m.getLsbD (lo + i) = true) : d.extractLsb' lo n = c.extractLsb' lo n := by
  ext i hi
  have hb := congrArg (BitVec.getLsbD · (lo + i)) h
  simpa [hm i hi] using hb

/-- A word that agrees with CAUSE in the checked bits is as good. -/
theorem CauseOk.congr {c d : Word} (hc : CauseOk c) (h : d &&& causeChecked = c &&& causeChecked) :
    CauseOk d := by
  have hcode : d.extractLsb' 2 5 = c.extractLsb' 2 5 := extractLsb'_congr_of_and h (by decide)
  have hcop : d.extractLsb' 28 2 = c.extractLsb' 28 2 := extractLsb'_congr_of_and h (by decide)
  have hmask : causeUnwritten = causeChecked &&& causeUnwritten := by decide
  refine ⟨?_, hcode ▸ hc.code, fun hn => hcop ▸ hc.coprocessor (hcode ▸ hn)⟩
  calc d &&& causeUnwritten = d &&& causeChecked &&& causeUnwritten := by
        rw [BitVec.and_assoc, ← hmask]
    _ = c &&& causeUnwritten := by rw [h, BitVec.and_assoc, ← hmask]
    _ = 0 := hc.zeros

/-- The sample of the line moves no checked bit. -/
theorem CauseOk.sampled {c : Word} (hc : CauseOk c) (b : Bool) :
    CauseOk (if b then c ||| irqMask else c &&& ~~~irqMask) := by
  apply hc.congr
  cases b
  · rw [if_neg Bool.false_ne_true, BitVec.and_assoc]
    congr 1
  · rw [if_pos rfl, BitVec.and_or_distrib_right]
    exact BitVec.or_zero

/-- MTC0 to CAUSE moves no checked bit. -/
theorem CauseOk.written {c : Word} (hc : CauseOk c) (v : Word) :
    CauseOk ((c &&& 0xFFFFFCFF#32) ||| (v &&& 0x00000300#32)) := by
  apply hc.congr
  rw [BitVec.and_or_distrib_right, BitVec.and_assoc, BitVec.and_assoc]
  exact (congrArg _ BitVec.and_zero).trans BitVec.or_zero

/-- A kind that is not CoprocessorUnusable writes no coprocessor number. -/
theorem Exception.coprocessor_eq_zero {e : Exception} (h : e.code ≠ 11) : e.coprocessor = 0 := by
  cases e with
  | coprocessorUnusable c => exact absurd rfl h
  | _ => rfl

/-- Trap entry of a kind the core raises. -/
theorem CauseOk.trapped {c : Word} (hc : CauseOk c) {e : Exception} (he : e.code ∈ raisedCodes)
    (bd : Bool) : CauseOk (causeAfterTrap e bd c) where
  zeros := by
    have hmask : causeUnwritten = ~~~causeTrapBits &&& causeUnwritten := by decide
    rw [hmask, ← BitVec.and_assoc, causeAfterTrap_rest, BitVec.and_assoc, ← hmask]
    exact hc.zeros
  code := by rwa [causeAfterTrap_code]
  coprocessor := by
    rw [causeAfterTrap_code, causeAfterTrap_ce]
    exact Exception.coprocessor_eq_zero

/-! ### Alignment -/

@[simp] theorem misalignedWord_add_four (a : Word) : misalignedWord (a + 4) = misalignedWord a := by
  have h0 : (a + 4).getLsbD 0 = a.getLsbD 0 := by
    rw [BitVec.getLsbD_add (by decide)]
    simp
  have h1 : (a + 4).getLsbD 1 = a.getLsbD 1 := by
    rw [BitVec.getLsbD_add (by decide)]
    simp [BitVec.carry_succ]
  rw [misalignedWord, h0, h1, misalignedWord]

@[simp] theorem misalignedWord_exceptionVector (sr : Word) :
    misalignedWord (exceptionVector sr) = false := by
  unfold exceptionVector
  split <;> rfl

/-! ### FLAG -/

/-- A change that every flag of it goes through leaves only stored bits of FLAG where it found such. -/
theorem Gte.flagBits_of_mapFlag {f : Gte → Gte} (hf : ∀ φ g, f (Gte.mapFlag φ g) = (f g).mapFlag φ)
    {g : Gte} (hg : g.flag &&& 0x80000FFF = 0) : (f g).flag &&& 0x80000FFF = 0 := by
  have hcut : ∀ w : Word, w &&& 0x80000FFF#32 = 0#32 ↔ w &&& ~~~0x80000FFF#32 = w := by
    intro w
    constructor
    · intro h
      calc w &&& ~~~0x80000FFF#32 = (w &&& ~~~0x80000FFF#32) ||| (w &&& 0x80000FFF#32) := by
            rw [h]; exact BitVec.or_zero.symm
        _ = w := by rw [← BitVec.and_or_distrib_left]; exact BitVec.and_allOnes
    · intro h
      rw [← h, BitVec.and_assoc]
      exact BitVec.and_zero
  have hfix : g.mapFlag .stored = g := by
    obtain ⟨⟩ := g
    simpa [Gte.mapFlag, FlagMap.stored] using (hcut _).mp hg
  have h := congrArg Gte.flag (hf .stored g)
  rw [hfix] at h
  exact (hcut _).mpr h.symm

/-- A port write stores only the stored bits of FLAG. -/
theorem Gte.flagBits_portWrite (p : Bool) (n : BitVec 6) (v : Word) {g : Gte}
    (hg : g.flag &&& 0x80000FFF = 0) : (g.portWrite p n v).flag &&& 0x80000FFF = 0 := by
  have hw : flagWritten v &&& 0x80000FFF = 0 := by
    rw [flagWritten, BitVec.and_assoc]
    exact BitVec.and_zero
  have hcases : (g.portWrite p n v).flag = g.flag ∨ (g.portWrite p n v).flag = flagWritten v := by
    unfold Gte.portWrite
    split <;> simp [Gte.portPushSxy, apply_ite Gte.flag]
  rcases hcases with h | h
  · rwa [h]
  · rwa [h]

end Sys2Proof.Machine
end

section
/-! ### Every instruction keeps what holds while it runs -/

namespace Sys2Proof.Machine

/-- Where `r` completes, its state has `P`. -/
def Leads (r : Result) (P : State → Prop) : Prop := ∀ t, r = .next t → P t

theorem leads_next {t : State} {P : State → Prop} (h : P t) : Leads (.next t) P := by
  rintro _ ⟨⟩
  exact h

theorem leads_fault (f : Fault) (P : State → Prop) : Leads (.fault f) P := by
  rintro _ ⟨⟩

theorem leads_ite {c : Prop} [Decidable c] {a b : Result} {P : State → Prop} (ha : Leads a P)
    (hb : Leads b P) : Leads (if c then a else b) P := by
  split
  · exact ha
  · exact hb

/-! The state's operations -/

theorem State.Stored.takeTrap {s : State} (hs : s.Stored) {e : Exception}
    (he : e.code ∈ raisedCodes) : (s.takeTrap e).Stored :=
  { hs with cause := hs.cause.trapped he _ }

theorem State.Stored.raised {s : State} (hs : s.Stored) {e : Exception}
    (he : e.code ∈ raisedCodes) : (s.raised e).Running where
  stored := { hs with cause := hs.cause.trapped he _ }
  aligned := misalignedWord_exceptionVector _

theorem State.Running.advance {s : State} (hs : s.Running) : s.advance.Running where
  stored := { hs.stored with }
  aligned := (misalignedWord_add_four _).trans hs.aligned

theorem State.Running.writeReg {s : State} (hs : s.Running) (r : RegIdx) (v : Word) :
    (s.writeReg r v).Running where
  stored := { hs.stored with
    zeroRegister := (putReg_zeroPlace _ r v).trans hs.stored.zeroRegister }
  aligned := hs.aligned

theorem State.Running.delayedWrite {s : State} (hs : s.Running) (r : RegIdx) (v : Word) :
    (s.delayedWrite r v).Running := ⟨{ hs.stored with }, hs.aligned⟩

theorem State.Running.setJump {s : State} (hs : s.Running) (a : Word) : (s.setJump a).Running :=
  ⟨{ hs.stored with }, hs.aligned⟩

theorem State.Running.noteBus {s : State} (hs : s.Running) (c : BusCall) : (s.noteBus c).Running :=
  ⟨{ hs.stored with }, hs.aligned⟩

theorem State.Running.busWriteByte {s : State} (hs : s.Running) (a : Word) (v : Byte) :
    (s.busWriteByte a v).Running where
  stored := { hs.stored with memory := Memory.wf_writeByte hs.stored.memory a v }
  aligned := hs.aligned

theorem State.Running.busWriteHalf {s : State} (hs : s.Running) (a : Word) (v : Half) :
    (s.busWriteHalf a v).Running where
  stored := { hs.stored with memory := Memory.wf_writeHalf hs.stored.memory a v }
  aligned := hs.aligned

theorem State.Running.busWriteWord {s : State} (hs : s.Running) (a v : Word) :
    (s.busWriteWord a v).Running where
  stored := { hs.stored with memory := Memory.wf_writeWord hs.stored.memory a v }
  aligned := hs.aligned

theorem State.Running.writeGte {s : State} (hs : s.Running) (n : BitVec 6) (v : Word) :
    (s.writeGte n v).Running where
  stored := { hs.stored with flagBits := Gte.flagBits_portWrite _ n v hs.stored.flagBits }
  aligned := hs.aligned

theorem State.Running.popStatus {s : State} (hs : s.Running) : s.popStatus.Running :=
  ⟨{ hs.stored with }, hs.aligned⟩

/-- What MTC0 can do to PRID and to CAUSE. -/
theorem Cop0.write_eq_some {n : RegIdx} {v : Word} {c d : Cop0} (h : c.write n v = some d) :
    d.prid = c.prid ∧ (d.cause = c.cause ∨
      d.cause = (c.cause &&& 0xFFFFFCFF#32) ||| (v &&& 0x00000300#32)) := by
  unfold Cop0.write at h
  split at h <;> cases h <;> simp

/-- A GTE command is the frame of R450 around what it does to the GTE, whose flags do not depend on the
flags before it. -/
theorem exec_gteCommand (i : Instr) (h : i.family = .gteCommand) :
    ∃ f : Gte → Gte, (∀ φ g, f (Gte.mapFlag φ g) = (f g).mapFlag φ) ∧
      ∀ s, exec i s = gteCommand f s := by
  cases i with
  | rtps => exact ⟨_, fun φ g => by simp, fun s => show execRtps _ _ s = _ from rfl⟩
  | rtpt => exact ⟨_, fun φ g => by simp, fun s => show execRtpt _ _ s = _ from rfl⟩
  | nclip => exact ⟨_, fun φ g => by simp, fun s => show execNclip s = _ from rfl⟩
  | op => exact ⟨_, fun φ g => by simp, fun s => show execOp _ _ s = _ from rfl⟩
  | dpcs => exact ⟨_, fun φ g => by simp, fun s => show execDpcs _ _ s = _ from rfl⟩
  | dpct =>
    exact ⟨_, fun φ g => by simp [Gte.depthCueOldest], fun s => show execDpct _ _ s = _ from rfl⟩
  | dcpl => exact ⟨_, fun φ g => by simp, fun s => show execDcpl _ _ s = _ from rfl⟩
  | intpl => exact ⟨_, fun φ g => by simp, fun s => show execIntpl _ _ s = _ from rfl⟩
  | mvmva => exact ⟨_, fun φ g => by simp, fun s => show execMvmva _ _ _ _ _ s = _ from rfl⟩
  | ncs =>
    exact ⟨_, fun φ g => by simp [Gte.normalColour], fun s => show execNcs _ _ s = _ from rfl⟩
  | nct =>
    exact ⟨_, fun φ g => by simp [Gte.normalColour], fun s => show execNct _ _ s = _ from rfl⟩
  | nccs =>
    exact ⟨_, fun φ g => by simp [Gte.normalColourColour], fun s => show execNccs _ _ s = _ from rfl⟩
  | ncct =>
    exact ⟨_, fun φ g => by simp [Gte.normalColourColour], fun s => show execNcct _ _ s = _ from rfl⟩
  | ncds =>
    exact ⟨_, fun φ g => by simp [Gte.normalColourDepth], fun s => show execNcds _ _ s = _ from rfl⟩
  | ncdt =>
    exact ⟨_, fun φ g => by simp [Gte.normalColourDepth], fun s => show execNcdt _ _ s = _ from rfl⟩
  | cc => exact ⟨_, fun φ g => by simp, fun s => show execCc _ _ s = _ from rfl⟩
  | cdp => exact ⟨_, fun φ g => by simp, fun s => show execCdp _ _ s = _ from rfl⟩
  | sqr => exact ⟨_, fun φ g => by simp, fun s => show execSqr _ _ s = _ from rfl⟩
  | avsz3 => exact ⟨_, fun φ g => by simp [Gte.average3], fun s => show execAvsz3 s = _ from rfl⟩
  | avsz4 => exact ⟨_, fun φ g => by simp [Gte.average4], fun s => show execAvsz4 s = _ from rfl⟩
  | gpf => exact ⟨_, fun φ g => by simp, fun s => show execGpf _ _ s = _ from rfl⟩
  | gpl => exact ⟨_, fun φ g => by simp, fun s => show execGpl _ _ s = _ from rfl⟩
  | _ => cases h

/-! The ends of the instructions -/

section
variable {s : State} (hs : s.Running)
include hs

/-- Every kind of exception an instruction raises is one of R501 that the core raises. -/
theorem leads_raise {e : Exception} (he : decide (e.code ∈ raisedCodes) = true) :
    Leads (raise e s) State.Running := leads_next (hs.stored.raised (of_decide_eq_true he))

theorem leads_writeBack (r : RegIdx) (v : Word) : Leads (writeBack r v s) State.Running :=
  leads_next (hs.writeReg r v).advance

theorem leads_writeBackSigned (r : RegIdx) (x : Int) :
    Leads (writeBackSigned r x s) State.Running :=
  leads_ite (leads_raise hs rfl) (leads_writeBack hs r _)

theorem leads_writeHiLo (hi lo : Word) : Leads (writeHiLo hi lo s) State.Running :=
  leads_next (State.Running.advance ⟨{ hs.stored with }, hs.aligned⟩)

theorem running_link (rd : Option RegIdx) : (link rd s).Running := by
  cases rd with
  | none => exact hs
  | some r => exact hs.writeReg r _

theorem leads_transfer (c : Bool) (a : Word) (rd : Option RegIdx) :
    Leads (transfer c a rd s) State.Running := by
  obtain ⟨-, -, h⟩ | ⟨-, -, h⟩ | ⟨-, h⟩ := transfer_cases c a rd s <;> rw [h]
  · exact leads_fault _ _
  · exact leads_next ((running_link hs rd).setJump a).advance
  · exact leads_next (running_link hs rd).advance

theorem leads_finishLoad (r : RegIdx) (c : BusCall) (v : Word) :
    Leads (finishLoad r c v s) State.Running := leads_next ((hs.noteBus c).delayedWrite r v).advance

theorem leads_storeMerged (merge : BitVec 2 → Word → Word → Word) (a v : Word) :
    Leads (storeMerged merge a v s) State.Running :=
  leads_next ((hs.noteBus _).busWriteWord _ _).advance

theorem leads_whenCop0Usable {body : State → Result} (h : Leads (body s) State.Running) :
    Leads (whenCop0Usable body s) State.Running := leads_ite h (leads_raise hs rfl)

theorem leads_whenGteUsable {body : State → Result} (h : Leads (body s) State.Running) :
    Leads (whenGteUsable body s) State.Running := leads_ite h (leads_raise hs rfl)

theorem leads_execMfc0 (rt rd : RegIdx) : Leads (execMfc0 rt rd s) State.Running := by
  apply leads_whenCop0Usable hs
  cases s.cop0.read rd with
  | none => exact leads_fault _ _
  | some v => exact leads_next (hs.delayedWrite rt v).advance

theorem leads_execMtc0 (rt rd : RegIdx) : Leads (execMtc0 rt rd s) State.Running := by
  apply leads_whenCop0Usable hs
  cases h : s.cop0.write rd (s.readReg rt) with
  | none => exact leads_fault _ _
  | some c =>
    obtain ⟨hprid, hcause⟩ := Cop0.write_eq_some h
    have hok : CauseOk c.cause := by
      rcases hcause with h | h <;> rw [h]
      · exact hs.stored.cause
      · exact hs.stored.cause.written _
    exact leads_next (State.Running.advance
      ⟨{ hs.stored with cause := hok, prid := hprid.trans hs.stored.prid }, hs.aligned⟩)

/-- A GTE command whose flags do not depend on the flags before it. -/
theorem leads_gteCommand {f : Gte → Gte} (hf : ∀ φ g, f (Gte.mapFlag φ g) = (f g).mapFlag φ) :
    Leads (gteCommand f s) State.Running :=
  leads_ite
    (leads_next (State.Running.advance
      ⟨{ hs.stored with flagBits := Gte.flagBits_of_mapFlag hf BitVec.zero_and }, hs.aligned⟩))
    (leads_raise hs rfl)

theorem leads_command {i : Instr} (h : i.family = .gteCommand) :
    Leads (exec i s) State.Running := by
  obtain ⟨f, hf, hexec⟩ := exec_gteCommand i h
  rw [hexec]
  exact leads_gteCommand hs hf

/-- Every instruction that completes keeps what holds while it runs. -/
theorem leads_exec (i : Instr) : Leads (exec i s) State.Running := by
  cases i with
  | sll | srl | sra | sllv | srlv | srav | addu | subu | and | or | xor | nor | slt | sltu | addiu
  | slti | sltiu | andi | ori | xori | lui | mfhi | mflo => exact leads_writeBack hs _ _
  | add | sub | addi => exact leads_writeBackSigned hs _ _
  | mult | multu | div | divu | mthi | mtlo => exact leads_writeHiLo hs _ _
  | jr | jalr | j | jal => exact leads_transfer hs true _ _
  | bltz | bgez | bltzal | bgezal | beq | bne | blez | bgtz => exact leads_transfer hs _ _ _
  | lb | lbu | lwl | lwr => exact leads_finishLoad hs _ _ _
  | lh | lhu | lw => exact leads_ite (leads_raise hs rfl) (leads_finishLoad hs _ _ _)
  | sb => exact leads_next (hs.busWriteByte _ _).advance
  | sh => exact leads_ite (leads_raise hs rfl) (leads_next (hs.busWriteHalf _ _).advance)
  | sw => exact leads_ite (leads_raise hs rfl) (leads_next (hs.busWriteWord _ _).advance)
  | swl | swr => exact leads_storeMerged hs _ _ _
  | syscall | brk | cop1 | cop3 | lwc0 | lwc1 | lwc3 | swc0 | swc1 | swc3 | reserved =>
    exact leads_raise hs rfl
  | mfc0 => exact leads_execMfc0 hs _ _
  | mtc0 => exact leads_execMtc0 hs _ _
  | rfe =>
    apply leads_whenCop0Usable hs
    exact leads_next hs.popStatus.advance
  | cop0Reserved => exact leads_whenCop0Usable hs (leads_raise hs rfl)
  | mfc2 | cfc2 =>
    apply leads_whenGteUsable hs
    exact leads_next (hs.delayedWrite _ _).advance
  | mtc2 | ctc2 =>
    apply leads_whenGteUsable hs
    exact leads_next (hs.writeGte _ _).advance
  | lwc2 =>
    apply leads_whenGteUsable hs
    exact leads_ite (leads_raise hs rfl) (leads_next ((hs.noteBus _).writeGte _ _).advance)
  | swc2 =>
    apply leads_whenGteUsable hs
    exact leads_ite (leads_raise hs rfl) (leads_next (hs.busWriteWord _ _).advance)
  | cop2Reserved => exact leads_whenGteUsable hs (leads_raise hs rfl)
  | gteReserved => exact leads_ite (leads_raise hs rfl) (leads_raise hs rfl)
  | _ => exact leads_command hs (by rfl)

end

/-! ### The phases -/

theorem State.Stored.sampleLine {s : State} (hs : s.Stored) : s.sampleLine.Stored :=
  { hs with cause := hs.cause.sampled _ }

theorem State.Stored.trapIfPending {s : State} (hs : s.Stored) : s.trapIfPending.Stored := by
  obtain ⟨-, h⟩ | ⟨-, h⟩ := s.trapIfPending_cases <;> rw [h]
  · exact hs.takeTrap (by decide)
  · exact hs

theorem State.Stored.beforeFetch {s : State} (hs : s.Stored) : s.beforeFetch.Stored :=
  State.Stored.trapIfPending (State.Stored.sampleLine { hs with })

theorem State.Stored.commitPhase {s : State} (hs : s.Stored) : s.commitPhase.Stored := by
  have hregs : s.commitPhase.regs[0] = 0 := by
    unfold State.commitPhase
    cases s.ldCur with
    | none => exact hs.zeroRegister
    | some e => exact (putReg_zeroPlace ..).trans hs.zeroRegister
  exact { hs with zeroRegister := hregs }

end Sys2Proof.Machine
end

section
namespace Sys2Proof.Machine

/-- A fetch leaves everything in place. -/
theorem State.Stored.running_noteFetch {s : State} (hs : s.Stored) (h : misalignedWord s.pc = false) :
    s.noteFetch.Running := State.Running.noteBus ⟨hs, h⟩ _

theorem State.Running.commitPhase {s : State} (hs : s.Running) : s.commitPhase.Running :=
  ⟨hs.stored.commitPhase, hs.aligned⟩

/-- P5 leaves an aligned program counter, or no branch pending. -/
theorem State.Running.resolvePhase {s : State} (hs : s.Running) (w : Bool) :
    (s.resolvePhase w).Stored ∧
      ((s.resolvePhase w).bdPending = true → misalignedWord (s.resolvePhase w).pc = false) := by
  unfold State.resolvePhase
  split
  · exact ⟨{ hs.stored with }, nofun⟩
  · exact ⟨hs.stored, fun _ => hs.aligned⟩

/-- P6 keeps what is stored, and drops a pending branch where it traps. -/
theorem State.Stored.recheckPhase {s : State} (hs : s.Stored)
    (hd : s.bdPending = true → misalignedWord s.pc = false) :
    s.recheckPhase.Stored ∧
      (s.recheckPhase.bdPending = true → misalignedWord s.recheckPhase.pc = false) := by
  unfold State.recheckPhase
  split
  · obtain ⟨-, h⟩ | ⟨-, h⟩ := s.trapIfPending_cases <;> rw [h]
    · exact ⟨hs.takeTrap (by decide), nofun⟩
    · exact ⟨hs, hd⟩
  · exact ⟨hs, hd⟩

/-- P4 to P7 turn what holds while an instruction runs into the invariant. -/
theorem State.Running.inv_endStep {s : State} (hs : s.Running) (w : Bool) : (s.endStep w).Inv := by
  obtain ⟨hstored, hslot⟩ := hs.commitPhase.resolvePhase w
  obtain ⟨hstored', hslot'⟩ := hstored.recheckPhase hslot
  exact State.inv_iff.mpr ⟨{ hstored' with }, State.endStep_ldNext s w, hslot'⟩

/-- Settles O8: what the invariant says of the stored fields holds up to the fetch, while the instruction
runs, and through P4 to P7. -/
theorem stepKeepsInvariant : Obligations.StepKeepsInvariant := by
  unfold Obligations.StepKeepsInvariant
  intro s t hs hstep
  have hfetch : s.beforeFetch.Stored := (State.inv_iff.mp hs).1.beforeFetch
  obtain ⟨-, ⟨-, rfl⟩ | ⟨haligned, u, hu, rfl⟩⟩ := step_next_cases hstep
  · exact (hfetch.raised (by simp [Exception.code, raisedCodes])).inv_endStep false
  · exact (leads_exec (hfetch.running_noteFetch haligned) _ u hu).inv_endStep _

/-- Settles O7. -/
theorem resetMeetsInvariant : Obligations.ResetMeetsInvariant where
  memory := rfl
  zeroRegister := by simp [State.reset]
  queue := rfl
  delaySlot := nofun
  causeZeros := by decide
  causeCode := by decide
  causeCoprocessor _ := by decide
  flagBits := by decide
  prid := rfl

/-- Settles O6. -/
theorem resetValues : Obligations.ResetValues := by
  have hregs : ∀ r, State.reset.readReg r = 0 := by
    intro r
    simp [State.readReg, State.reset]
  have hcop0 : ∀ n v, Cop0.read n State.reset.cop0 = some v → v = if n = 15 then 2 else 0 := by
    intro n v h
    unfold Cop0.read at h
    split at h <;> cases h <;> rfl
  have hgte : ∀ n, n ≠ 31 → State.reset.gte.portRead n = 0 := by decide
  have hlzc : State.reset.gte.portRead 31 = 32 := by decide
  exact ⟨hregs, rfl, rfl, rfl, rfl, rfl, rfl, rfl, rfl, rfl, rfl, hcop0, hgte, hlzc, fun _ => rfl,
    rfl, rfl, rfl, rfl, rfl⟩

end Sys2Proof.Machine
end

section
/-! ### The flags an operation adds, and the values it leaves -/

namespace Sys2Proof.Machine

/-! Lists of flags -/

/-- The list raises bit `k`. -/
def Flagged (bits : List (Nat × Prop)) (k : Nat) : Prop := ∃ c, (k, c) ∈ bits ∧ c

@[simp] theorem flagged_nil (k : Nat) : ¬Flagged [] k := by simp [Flagged]

@[simp] theorem flagged_cons (b : Nat) (p : Prop) (bits : List (Nat × Prop)) (k : Nat) :
    Flagged ((b, p) :: bits) k ↔ k = b ∧ p ∨ Flagged bits k := by
  constructor
  · rintro ⟨c, hc, hp⟩
    rcases List.mem_cons.mp hc with h | h
    · cases h
      exact .inl ⟨rfl, hp⟩
    · exact .inr ⟨c, h, hp⟩
  · rintro (⟨rfl, hp⟩ | ⟨c, hc, hp⟩)
    · exact ⟨p, List.mem_cons_self, hp⟩
    · exact ⟨c, List.mem_cons_of_mem _ hc, hp⟩

@[simp] theorem flagged_append (bits bits' : List (Nat × Prop)) (k : Nat) :
    Flagged (bits ++ bits') k ↔ Flagged bits k ∨ Flagged bits' k := by
  simp only [Flagged, List.mem_append, or_and_right, exists_or]

/-- `h` has the flags of `g` and those the list raises. -/
def Gte.FlagAdds (bits : List (Nat × Prop)) (g h : Gte) : Prop :=
  ∀ k, h.flag.getLsbD k = true ↔ g.flag.getLsbD k = true ∨ Flagged bits k

theorem Gte.FlagAdds.trans {bits bits' : List (Nat × Prop)} {g h k : Gte}
    (hgh : Gte.FlagAdds bits g h) (hhk : Gte.FlagAdds bits' h k) :
    Gte.FlagAdds (bits ++ bits') g k := by
  intro i
  rw [hhk i, hgh i, or_assoc, flagged_append]

/-- The list may be replaced by one that raises the same bits. -/
theorem Gte.FlagAdds.congr {bits bits' : List (Nat × Prop)} {g h : Gte}
    (hgh : Gte.FlagAdds bits g h) (e : ∀ k, Flagged bits k ↔ Flagged bits' k) :
    Gte.FlagAdds bits' g h := fun k => (hgh k).trans (or_congr_right (e k))

/-- The flags of one stage and those a list raises. -/
theorem Gte.FlagAdds.joins {bits : List (Nat × Prop)} {g h : Gte} (hgh : Gte.FlagAdds bits g h) :
    FlagJoins [g] bits h := by
  intro k
  simpa [Flagged] using hgh k

theorem Gte.flagAdds_raiseFlag {c : Bool} {p : Prop} (hp : c = true ↔ p) {b : Nat} (hb : b < 32)
    (g : Gte) : Gte.FlagAdds [(b, p)] g (g.raiseFlag c b) := by
  intro k
  rw [Gte.raiseFlag_bit c b k g hb]
  simp [hp, and_comm]

theorem outside_iff (lo hi v : Int) : outside lo hi v = true ↔ Outside lo hi v := by
  simp [outside, Outside]

/-! The stores of the lanes -/

/-- A shift is a division (R12). -/
@[simp] theorem shiftRight_eq_div (x : Int) (n : Nat) : x >>> n = x / 2 ^ n := by
  rw [Int.shiftRight_eq_div_pow]
  norm_cast

theorem Gte.flagAdds_checkMac (l : Lane) (x : Int) (g : Gte) :
    Gte.FlagAdds [(31 - l.number, x > 2 ^ 43 - 1), (28 - l.number, x < -2 ^ 43)] g
      (g.checkMac l x) :=
  (Gte.flagAdds_raiseFlag decide_eq_true_iff (by omega) g).trans
    (Gte.flagAdds_raiseFlag decide_eq_true_iff (by omega) _)

theorem Gte.flagAdds_flagA (l : Lane) (lm : Bool) (v : Int) (g : Gte) :
    Gte.FlagAdds [(25 - l.number, Outside (if lm then 0 else -0x8000) 0x7FFF v)] g
      (g.flagA l lm v) := Gte.flagAdds_raiseFlag (outside_iff (irFloor lm) _ _) (by omega) g

/-- The flags of `setMACIR_i` (R404, R407, R410). -/
theorem Gte.flagAdds_setMacIr (l : Lane) (x : Int) (s : Nat) (lm : Bool) (g : Gte) :
    Gte.FlagAdds [(31 - l.number, x > 2 ^ 43 - 1), (28 - l.number, x < -2 ^ 43),
      (25 - l.number, Outside (if lm then 0 else -0x8000) 0x7FFF (BitVec.ofInt 32 (x / 2 ^ s)).toInt)]
      g (g.setMacIr l x s lm) := by
  rw [← shiftRight_eq_div]
  exact (g.flagAdds_checkMac l x).trans ((g.setMac l x s).flagAdds_flagA l lm _)

/-- The three lanes of a command stored in order. -/
def Gte.setLanes (x1 x2 x3 : Int) (sh : Nat) (lm : Bool) (g : Gte) : Gte :=
  ((g.setMacIr .one x1 sh lm).setMacIr .two x2 sh lm).setMacIr .three x3 sh lm

section
variable (x1 x2 x3 : Int) (sh : Nat) (lm : Bool) (g : Gte)

theorem Gte.onlyLanes_setLanes : g.OnlyLanes (g.setLanes x1 x2 x3 sh lm) :=
  ((Gte.onlyLanes_setMacIr .one x1 sh lm g).trans (Gte.onlyLanes_setMacIr .two x2 sh lm _)).trans
    (Gte.onlyLanes_setMacIr .three x3 sh lm _)

theorem laneIs_stored (x : Int) : LaneIs x sh lm (BitVec.ofInt 32 (x >>> sh))
    (BitVec.ofInt 16 (limA lm (BitVec.ofInt 32 (x >>> sh)).toInt)) :=
  ⟨by rw [shiftRight_eq_div], toInt_limA _ _⟩

theorem Gte.lanesAre_setLanes : LanesAre x1 x2 x3 sh lm (g.setLanes x1 x2 x3 sh lm) :=
  ⟨laneIs_stored sh lm x1, laneIs_stored sh lm x2, laneIs_stored sh lm x3⟩

theorem Gte.flagAdds_setLanes : Gte.FlagAdds
    (macFlags x1 x2 x3 ++ irFlags lm (g.setLanes x1 x2 x3 sh lm)) g (g.setLanes x1 x2 x3 sh lm) := by
  obtain ⟨⟨h1, -⟩, ⟨h2, -⟩, ⟨h3, -⟩⟩ := g.lanesAre_setLanes x1 x2 x3 sh lm
  refine (((Gte.flagAdds_setMacIr .one x1 sh lm g).trans
    (Gte.flagAdds_setMacIr .two x2 sh lm _)).trans (Gte.flagAdds_setMacIr .three x3 sh lm _)).congr ?_
  intro k
  simp only [macFlags, irFlags, h1, h2, h3, Lane.number, flagged_append, flagged_cons, flagged_nil,
    or_false, Nat.reduceSub]
  exact iff_of_eq (by ac_rfl)

/-- Lanes that fit the accumulator raise the flags of their limiters alone. -/
theorem Gte.flagAdds_setLanes_of_fits (h1 : Fits44 x1) (h2 : Fits44 x2) (h3 : Fits44 x3) :
    Gte.FlagAdds (irFlags lm (g.setLanes x1 x2 x3 sh lm)) g (g.setLanes x1 x2 x3 sh lm) := by
  refine (g.flagAdds_setLanes x1 x2 x3 sh lm).congr fun k => ?_
  have hmac : ¬Flagged (macFlags x1 x2 x3) k := by
    unfold Fits44 at h1 h2 h3
    intro h
    simp only [macFlags, flagged_cons, flagged_nil, or_false] at h
    omega
  simp [hmac]

end

/-! The colour push -/

@[simp] theorem shiftRight_four (x : Int) : x >>> (4 : Int) = x / 16 :=
  (Int.shiftRight_natCast_right x 4).trans (shiftRight_eq_div x 4)

/-- The colour word with its shifts written as divisions. -/
theorem Gte.colourWord_eq (g : Gte) : g.colourWord =
    (g.rgbc &&& 0xFF000000#32) ||| place 16 (BitVec.ofInt 8 (limB (g.mac3.toInt / 16)))
      ||| place 8 (BitVec.ofInt 8 (limB (g.mac2.toInt / 16)))
      ||| place 0 (BitVec.ofInt 8 (limB (g.mac1.toInt / 16))) := by
  simp [Gte.colourWord]

theorem Gte.flagAdds_flagB (l : Lane) (v : Int) (g : Gte) :
    Gte.FlagAdds [(22 - l.number, Outside 0 0xFF v)] g (g.flagB l v) :=
  Gte.flagAdds_raiseFlag (outside_iff _ _ _) (by omega) g

/-- The flags a push raises, for the three components in order (R411, R417). -/
def Gte.flagColours (g : Gte) : Gte :=
  ((g.flagB .one (g.mac1.toInt / 16)).flagB .two (g.mac2.toInt / 16)).flagB .three (g.mac3.toInt / 16)

theorem Gte.flagAdds_flagColours (g : Gte) : Gte.FlagAdds (colourFlags g) g g.flagColours :=
  (((g.flagAdds_flagB .one _).trans (Gte.flagAdds_flagB .two _ _)).trans
    (Gte.flagAdds_flagB .three _ _)).congr fun k => by simp [colourFlags, Lane.number]

/-- `h` differs from `g` in FLAG at most. -/
def Gte.OnlyFlag (g h : Gte) : Prop := ∃ f, h = { g with flag := f }

theorem Gte.OnlyFlag.trans {g h k : Gte} : g.OnlyFlag h → h.OnlyFlag k → g.OnlyFlag k := by
  rintro ⟨_, rfl⟩ ⟨f, rfl⟩
  exact ⟨f, rfl⟩

theorem Gte.onlyFlag_raiseFlag (c : Bool) (b : Nat) (g : Gte) : g.OnlyFlag (g.raiseFlag c b) :=
  ⟨_, rfl⟩

theorem Gte.onlyFlag_flagColours (g : Gte) : g.OnlyFlag g.flagColours :=
  ((Gte.onlyFlag_raiseFlag _ _ _).trans (Gte.onlyFlag_raiseFlag _ _ _)).trans
    (Gte.onlyFlag_raiseFlag _ _ _)

/-- A push: the flags, and the colour FIFO moved by one (R417). -/
theorem Gte.pushRgb_eq (g : Gte) : g.pushRgb =
    { g with rgb0 := g.rgb1, rgb1 := g.rgb2, rgb2 := g.colourWord, flag := g.flagColours.flag } := by
  have h : g.pushRgb =
      { g.flagColours with rgb0 := g.rgb1, rgb1 := g.rgb2, rgb2 := g.colourWord } := by
    simp [Gte.pushRgb, Gte.flagColours]
  obtain ⟨f, hf⟩ := g.onlyFlag_flagColours
  rw [h, hf]

/-- The flags of a push (R411, R417). -/
theorem Gte.flagAdds_pushRgb (g : Gte) : Gte.FlagAdds (colourFlags g.pushRgb) g g.pushRgb := by
  rw [Gte.pushRgb_eq]
  exact g.flagAdds_flagColours

/-- A colour component fits a byte. -/
theorem toNat_limB (v : Int) : (BitVec.ofInt 8 (limB v)).toNat = (min (max v 0) 0xFF).toNat := by
  have h : limB v = min (max v 0) 0xFF := rfl
  rw [BitVec.toNat_ofInt, h]
  congr 1
  omega

/-- The bytes of a colour word. -/
theorem Gte.colourWord_bytes (g : Gte) :
    g.colourWord.extractLsb' 0 8 = BitVec.ofInt 8 (limB (g.mac1.toInt / 16)) ∧
      g.colourWord.extractLsb' 8 8 = BitVec.ofInt 8 (limB (g.mac2.toInt / 16)) ∧
      g.colourWord.extractLsb' 16 8 = BitVec.ofInt 8 (limB (g.mac3.toInt / 16)) ∧
      g.colourWord.extractLsb' 24 8 = g.rgbc.extractLsb' 24 8 := by
  rw [Gte.colourWord_eq]
  generalize BitVec.ofInt 8 (limB (g.mac1.toInt / 16)) = a
  generalize BitVec.ofInt 8 (limB (g.mac2.toInt / 16)) = b
  generalize BitVec.ofInt 8 (limB (g.mac3.toInt / 16)) = c
  refine ⟨?_, ?_, ?_, ?_⟩ <;> ext i hi <;> simp [place] <;> interval_cases i <;> simp

/-- A push moves the FIFO and makes its newest entry, whatever lanes were stored before (R417). -/
theorem Gte.OnlyLanes.colourPushed {g h : Gte} (hgh : g.OnlyLanes h) : ColourPushed g h.pushRgb := by
  obtain ⟨hr, hg, hb, hcode⟩ := h.colourWord_bytes
  rw [Gte.pushRgb_eq]
  obtain ⟨_, _, _, _, _, _, _, rfl⟩ := hgh
  exact ⟨rfl, rfl, (congrArg _ hr).trans (toNat_limB _), (congrArg _ hg).trans (toNat_limB _),
    (congrArg _ hb).trans (toNat_limB _), hcode⟩

end Sys2Proof.Machine
end

section
/-! ### The stages of the lighting commands -/

namespace Sys2Proof.Machine

/-! The frame of a command, and a command made of stages -/

/-- A GTE command in a state in which the GTE is usable. -/
theorem gteCommand_of_usable {s : State} (hu : s.cop0.sr.getLsbD 30 = true) (f : Gte → Gte) :
    gteCommand f s = .next { s with gte := f s.gte.clearFlag, pc := s.pc + 4 } := by
  obtain ⟨-, h⟩ | ⟨h, -⟩ := gteCommand_cases f s
  · exact h
  · exact absurd (hu.symm.trans h) (by decide)

/-- What a GTE command that has run leaves in the GTE and in COP0. -/
theorem gte_of_gteCommand {s t : State} (hu : s.cop0.sr.getLsbD 30 = true) {f : Gte → Gte}
    (h : gteCommand f s = .next t) : t.gte = f s.gte.clearFlag ∧ t.cop0 = s.cop0 := by
  obtain rfl := Host.Outcome.next.inj (h.symm.trans (gteCommand_of_usable hu f))
  exact ⟨rfl, rfl⟩

theorem SameLanes.trans {g h k : Gte} (hgh : SameLanes g h) (hhk : SameLanes h k) : SameLanes g k :=
  ⟨hgh.1.trans hhk.1, hgh.2.trans hhk.2⟩

theorem sameColour_mapFlag (φ : FlagMap) (g : Gte) : SameColour g (g.mapFlag φ) := ⟨⟨rfl, rfl⟩, rfl⟩

section
variable {f : Gte → Gte} (hf : ∀ φ g, f (Gte.mapFlag φ g) = (f g).mapFlag φ) (g : Gte)
include hf

/-- What does not depend on FLAG does the same with FLAG cleared, but for the flags of before. -/
theorem Gte.stage_eq : f g = (f g.clearFlag).mapFlag (.join g.flag) := by
  rw [← hf]
  congr 1
  simp [Gte.mapFlag, FlagMap.join, Gte.clearFlag]

theorem sameColour_stage : SameColour (f g.clearFlag) (f g) := by
  rw [Gte.stage_eq hf g]
  exact sameColour_mapFlag _ _

theorem flagJoins_stage : FlagJoins [g, f g.clearFlag] [] (f g) := by
  intro k
  rw [Gte.stage_eq hf g]
  simp [FlagMap.join]

end

/-- The flags a list raises after the stages. -/
theorem Gte.FlagAdds.joins_stages {parts : List Gte} {bits : List (Nat × Prop)} {g h : Gte}
    (hg : FlagJoins parts [] g) (hgh : Gte.FlagAdds bits g h) : FlagJoins parts bits h := by
  intro k
  rw [hgh k, hg k]
  simp [Flagged]

/-! The light matrix -/

theorem abs_toInt_half (x : Half) : |x.toInt| ≤ 2 ^ 15 := abs_le.mpr ⟨x.le_toInt, x.toInt_lt.le⟩

/-- The product of two halves is far inside the accumulator. -/
theorem half_mul_bounds (a b : Half) : -2 ^ 30 ≤ a.toInt * b.toInt ∧ a.toInt * b.toInt ≤ 2 ^ 30 := by
  have h : |a.toInt * b.toInt| ≤ 2 ^ 15 * 2 ^ 15 := by
    rw [abs_mul]
    exact mul_le_mul (abs_toInt_half a) (abs_toInt_half b) (abs_nonneg _) (by norm_num)
  have hle := abs_le.mp h
  constructor <;> omega

/-- A value that fits raises no flag of its accumulator. -/
theorem Gte.checkMac_of_fits {x : Int} (h : Fits44 x) (l : Lane) (g : Gte) : g.checkMac l x = g := by
  obtain ⟨hlow, hhigh⟩ := h
  have h1 : ¬x > 2 ^ 43 - 1 := by omega
  have h2 : ¬x < -2 ^ 43 := by omega
  simp only [Gte.checkMac, h1, h2, decide_false]
  rfl

/-- A product of halves alone is the product with no translation: the accumulator keeps the first partial
sum (R425). -/
theorem Gte.mulMat_none (m : Mat16) (v : Vec16) (sh : Nat) (lm : Bool) (g : Gte) :
    g.mulMat m.toIMat none v.toIVec sh lm = g.mulMat m.toIMat (some ⟨0, 0, 0⟩) v.toIVec sh lm := by
  have hfit : ∀ l : Lane, Fits44 ((m.toIMat.row l).x * v.toIVec.x) := by
    intro l
    have h : ∃ a b : Half, (m.toIMat.row l).x * v.toIVec.x = a.toInt * b.toInt := by
      cases l <;> exact ⟨_, _, rfl⟩
    obtain ⟨a, b, h⟩ := h
    have := half_mul_bounds a b
    rw [h]
    constructor <;> omega
  have hzero : ∀ l : Lane, IVec.at l ⟨0, 0, 0⟩ = 0 := fun l => by cases l <;> rfl
  unfold Gte.mulMat
  congr
  funext l k
  simp [Gte.checkRow, rowValue, hzero, shl, Gte.checkMac_of_fits (hfit l), wrap44_of_fits (hfit l)]

/-- `Light(v)` in two stages, as MVMVA has them. -/
theorem Gte.light_eq (v : Vec16) (sh : Nat) (lm : Bool) (g : Gte) : g.light v sh lm =
    (g.mulMat g.llm.toIMat (some ⟨0, 0, 0⟩) v.toIVec sh lm).colourTransform sh lm := by
  rw [Gte.light, Gte.mulMat_none]

/-! The product with RGBC -/

theorem Gte.onlyLanes_colourTransform (sh : Nat) (lm : Bool) (g : Gte) :
    g.OnlyLanes (g.colourTransform sh lm) := Gte.onlyLanes_mulMat _ _ _ sh lm g

theorem Gte.onlyLanes_depthCue (sh : Nat) (lm : Bool) (g : Gte) : g.OnlyLanes (g.depthCue sh lm) :=
  Gte.onlyLanes_interp _ sh lm g

theorem Gte.onlyLanes_clearFlag (g : Gte) : g.OnlyLanes g.clearFlag := ⟨_, _, _, _, _, _, _, rfl⟩

/-- A store to one lane leaves the IR of another. -/
theorem Gte.irAt_setMacIr_of_ne {l l' : Lane} (h : l' ≠ l) (x : Int) (s : Nat) (lm : Bool) (g : Gte) :
    (g.setMacIr l x s lm).irAt l' = g.irAt l' := by
  have hput : ∀ (v : Half) (k : Gte), (k.putIr l v).irAt l' = k.irAt l' := by
    intro v k
    cases l' <;> exact congrArg BitVec.toInt (if_neg h.symm)
  have hflag : ∀ {k k' : Gte}, k.OnlyFlag k' → k'.irAt l' = k.irAt l' := by
    rintro k _ ⟨_, rfl⟩
    cases l' <;> rfl
  have hmac : ∀ (v : Word) (k : Gte), (k.putMac l v).irAt l' = k.irAt l' := by
    intro v k
    cases l' <;> rfl
  rw [Gte.setMacIr, Gte.setIr, hput, Gte.flagA, hflag (Gte.onlyFlag_raiseFlag _ _ _), Gte.setMac,
    hmac, Gte.checkMac, hflag ((Gte.onlyFlag_raiseFlag _ _ _).trans (Gte.onlyFlag_raiseFlag _ _ _))]

@[simp] theorem Gte.setMacIr_rgbc (l : Lane) (x : Int) (s : Nat) (lm : Bool) (g : Gte) :
    (g.setMacIr l x s lm).rgbc = g.rgbc := by
  obtain ⟨_, _, _, _, _, _, _, h⟩ := g.onlyLanes_setMacIr l x s lm
  rw [h]

/-- A loop that stores to each lane a value no earlier lane changes. -/
theorem Gte.forLanes_eq_setLanes {x : Lane → Gte → Int} {sh : Nat} {lm : Bool}
    (hx : ∀ {l l'}, l' ≠ l → ∀ y k, x l' (Gte.setMacIr l y sh lm k) = x l' k) (g : Gte) :
    (g.forLanes fun l g => g.setMacIr l (x l g) sh lm) =
      g.setLanes (x .one g) (x .two g) (x .three g) sh lm := by
  have h2 := hx (l := .one) (l' := .two) nofun
  have h3 := hx (l := .one) (l' := .three) nofun
  have h3' := hx (l := .two) (l' := .three) nofun
  rw [Gte.forLanes, Gte.setLanes, h2, h3', h3]

/-- `ColourMul()` stores three products of values it finds. -/
theorem Gte.colourMul_eq (sh : Nat) (lm : Bool) (g : Gte) : g.colourMul sh lm =
    g.setLanes ((g.rgbc.extractLsb' 0 8).toNat * g.ir1.toInt * 16)
      ((g.rgbc.extractLsb' 8 8).toNat * g.ir2.toInt * 16)
      ((g.rgbc.extractLsb' 16 8).toNat * g.ir3.toInt * 16) sh lm :=
  Gte.forLanes_eq_setLanes (x := fun l g => shl ((colours g.rgbc).at l * g.irAt l) 4)
    (fun h y k => by simp [Gte.irAt_setMacIr_of_ne h]) g

theorem Gte.onlyLanes_colourMul (sh : Nat) (lm : Bool) (g : Gte) : g.OnlyLanes (g.colourMul sh lm) := by
  rw [Gte.colourMul_eq]
  exact g.onlyLanes_setLanes _ _ _ sh lm

end Sys2Proof.Machine
end

section
namespace Sys2Proof.Machine

/-! The lanes after a push -/

theorem lanesAre_pushRgb {x1 x2 x3 : Int} {sh : Nat} {lm : Bool} {g : Gte} :
    LanesAre x1 x2 x3 sh lm g.pushRgb ↔ LanesAre x1 x2 x3 sh lm g := by
  rw [Gte.pushRgb_eq]
  rfl

theorem irFlags_pushRgb (lm : Bool) (g : Gte) : irFlags lm g.pushRgb = irFlags lm g := by
  rw [Gte.pushRgb_eq]
  rfl

theorem sameLanes_pushRgb (g : Gte) : SameLanes g g.pushRgb := by
  rw [Gte.pushRgb_eq]
  exact ⟨rfl, rfl⟩

/-! The stages, at the GTE -/

/-- A stage that does not depend on FLAG, after another: its colour, and the flags of both. -/
theorem stage_spec {f : Gte → Gte} (hf : ∀ φ g, f (Gte.mapFlag φ g) = (f g).mapFlag φ) (g : Gte) :
    SameColour (f g.clearFlag) (f g) ∧ FlagJoins [g, f g.clearFlag] [] (f g) :=
  ⟨sameColour_stage hf g, flagJoins_stage hf g⟩

section
variable (sh : Nat) (lm : Bool) (c : Gte)

/-- A byte times a half times 16 is inside the accumulator. -/
theorem fits44_colour (b : Byte) (i : Half) : Fits44 (b.toNat * i.toInt * 16) := by
  have hb : |(b.toNat : Int)| ≤ 2 ^ 8 := by
    rw [Nat.abs_cast]
    exact_mod_cast b.isLt.le
  have h : |(b.toNat : Int) * i.toInt| ≤ 2 ^ 8 * 2 ^ 15 := by
    rw [abs_mul]
    exact mul_le_mul hb (abs_toInt_half i) (abs_nonneg _) (by norm_num)
  have hle := abs_le.mp h
  constructor <;> omega

theorem lanesAre_colourMul : LanesAre ((c.rgbc.extractLsb' 0 8).toNat * c.ir1.toInt * 16)
    ((c.rgbc.extractLsb' 8 8).toNat * c.ir2.toInt * 16)
    ((c.rgbc.extractLsb' 16 8).toNat * c.ir3.toInt * 16) sh lm (c.colourMul sh lm).pushRgb := by
  rw [lanesAre_pushRgb, Gte.colourMul_eq]
  exact c.lanesAre_setLanes _ _ _ sh lm

/-- The product with RGBC raises the flags of its limiters alone. -/
theorem flagJoins_colourMul : FlagJoins [c]
    (irFlags lm (c.colourMul sh lm).pushRgb ++ colourFlags (c.colourMul sh lm).pushRgb)
    (c.colourMul sh lm).pushRgb := by
  rw [irFlags_pushRgb, Gte.colourMul_eq]
  exact ((c.flagAdds_setLanes_of_fits _ _ _ sh lm (fits44_colour _ _) (fits44_colour _ _)
    (fits44_colour _ _)).trans (Gte.flagAdds_pushRgb _)).joins

/-- The colour transform and a push: the lanes of the transform, and the flags of both. -/
theorem stages_colourTransform :
    SameLanes (c.clearFlag.colourTransform sh lm) (c.colourTransform sh lm).pushRgb ∧
      FlagJoins [c, c.clearFlag.colourTransform sh lm]
        (colourFlags (c.colourTransform sh lm).pushRgb) (c.colourTransform sh lm).pushRgb := by
  have hf : ∀ φ g, (Gte.mapFlag φ g).colourTransform sh lm =
      (g.colourTransform sh lm).mapFlag φ := by simp
  exact ⟨SameLanes.trans (sameColour_stage hf c).1 (sameLanes_pushRgb _),
    (Gte.flagAdds_pushRgb _).joins_stages (flagJoins_stage hf c)⟩

end

/-- Settles O57: the stages are those of MVMVA, CC, DCPL and CDP, and what does not depend on FLAG does
the same after a stage as from FLAG cleared. -/
theorem lightingStages : Obligations.LightingStages := by
  unfold Obligations.LightingStages
  intro s l c sf lm sh hu hsh hl hc
  obtain rfl : sh = shiftOf sf := hsh
  obtain ⟨hlgte, hlcop0⟩ := gte_of_gteCommand hu (show execMvmva .. = _ from hl)
  obtain ⟨hcgte, hccop0⟩ := gte_of_gteCommand hu (show execMvmva .. = _ from hc)
  have hul : l.cop0.sr.getLsbD 30 = true := hlcop0 ▸ hu
  have huc : c.cop0.sr.getLsbD 30 = true := hccop0 ▸ hu
  have hcolour : s.gte.clearFlag.colourTransform (shiftOf sf) lm = c.gte := hcgte.symm
  have hlight : s.gte.clearFlag.light s.gte.clearFlag.v0 (shiftOf sf) lm =
      l.gte.colourTransform (shiftOf sf) lm := by
    rw [hlgte]
    exact Gte.light_eq ..
  have hlanesc : s.gte.OnlyLanes c.gte :=
    hcolour ▸ s.gte.onlyLanes_clearFlag.trans (Gte.onlyLanes_colourTransform ..)
  have hlanesl : s.gte.OnlyLanes (l.gte.colourTransform (shiftOf sf) lm) :=
    hlight ▸ s.gte.onlyLanes_clearFlag.trans (Gte.onlyLanes_light ..)
  have hrgbc : c.gte.rgbc = s.gte.rgbc := by
    obtain ⟨_, _, _, _, _, _, _, h⟩ := hlanesc
    rw [h]
  refine ⟨⟨_, show execCc sf lm s = _ from gteCommand_of_usable hu _, ?_⟩,
    ⟨_, show execCdp sf lm s = _ from gteCommand_of_usable hu _, ?_,
      _, show execDcpl sf lm c = _ from gteCommand_of_usable huc _, ?_⟩,
    ⟨_, show execNcs sf lm s = _ from gteCommand_of_usable hu _, ?_,
      _, show execMvmva sf .lcm .ir .bk lm l = _ from gteCommand_of_usable hul _, ?_⟩,
    ⟨_, show execNccs sf lm s = _ from gteCommand_of_usable hu _, ?_,
      _, show execCc sf lm l = _ from gteCommand_of_usable hul _, ?_⟩,
    ⟨_, show execNcds sf lm s = _ from gteCommand_of_usable hu _, ?_,
      _, show execCdp sf lm l = _ from gteCommand_of_usable hul _, ?_⟩⟩ <;> dsimp only
  case refine_1 =>
    rw [hcolour, ← hrgbc]
    exact ⟨(hlanesc.trans (Gte.onlyLanes_colourMul ..)).colourPushed,
      lanesAre_colourMul (shiftOf sf) lm c.gte, flagJoins_colourMul (shiftOf sf) lm c.gte⟩
  case refine_2 =>
    rw [hcolour]
    exact (hlanesc.trans (Gte.onlyLanes_depthCue ..)).colourPushed
  case refine_3 =>
    rw [hcolour]
    exact stage_spec (f := fun g => (g.depthCue (shiftOf sf) lm).pushRgb) (by simp) c.gte
  case refine_4 =>
    rw [Gte.normalColour, hlight]
    exact hlanesl.colourPushed
  case refine_5 =>
    rw [Gte.normalColour, hlight]
    exact stages_colourTransform (shiftOf sf) lm l.gte
  case refine_6 =>
    rw [Gte.normalColourColour, hlight]
    exact (hlanesl.trans (Gte.onlyLanes_colourMul ..)).colourPushed
  case refine_7 =>
    rw [Gte.normalColourColour, hlight]
    exact stage_spec (f := fun g =>
      ((g.colourTransform (shiftOf sf) lm).colourMul (shiftOf sf) lm).pushRgb) (by simp) l.gte
  case refine_8 =>
    rw [Gte.normalColourDepth, hlight]
    exact (hlanesl.trans (Gte.onlyLanes_depthCue ..)).colourPushed
  case refine_9 =>
    rw [Gte.normalColourDepth, hlight]
    exact stage_spec (f := fun g =>
      ((g.colourTransform (shiftOf sf) lm).depthCue (shiftOf sf) lm).pushRgb) (by simp) l.gte

end Sys2Proof.Machine
end

section
/-! ### Rounds: what a command leaves as a write of values that do not depend on what it overwrites -/

namespace Sys2Proof.Machine

/-! Flags raised, as a join -/

/-- `f` joins the same flags to FLAG in every GTE. -/
def Joins (f : Gte → Gte) : Prop := ∃ a, ∀ g, f g = g.mapFlag (.join a)

theorem Gte.mapFlag_join_join (a b : Word) (g : Gte) :
    (g.mapFlag (.join a)).mapFlag (.join b) = g.mapFlag (.join (b ||| a)) := by
  simp [Gte.mapFlag, FlagMap.join, BitVec.or_assoc]

theorem Joins.comp {f h : Gte → Gte} (hf : Joins f) (hh : Joins h) : Joins fun g => h (f g) := by
  obtain ⟨a, hf⟩ := hf
  obtain ⟨b, hh⟩ := hh
  exact ⟨b ||| a, fun g => by rw [← Gte.mapFlag_join_join, ← hf, ← hh]⟩

theorem joins_raiseFlag (c : Bool) (b : Nat) : Joins (Gte.raiseFlag c b) := by
  refine ⟨if c then 1#32 <<< b else 0, fun g => ?_⟩
  cases c <;> simp [Gte.raiseFlag, Gte.mapFlag, FlagMap.join, BitVec.or_comm]

theorem joins_checkMac (l : Lane) (x : Int) : Joins (Gte.checkMac l x) :=
  (joins_raiseFlag _ _).comp (joins_raiseFlag _ _)

theorem joins_checkRow (l : Lane) (t : Option Int) (m v : IVec) : Joins (Gte.checkRow l t m v) := by
  cases t with
  | none => exact joins_checkMac l _
  | some t => exact (joins_checkMac l _).comp (joins_checkMac l _)

/-! Lanes written -/

/-- Values for the lanes, and flags to join. -/
structure LaneWrite where
  mac1 : Word
  mac2 : Word
  mac3 : Word
  ir1 : Half
  ir2 : Half
  ir3 : Half
  flag : Word

/-- The GTE with the lanes written and the flags joined. -/
@[simps] def LaneWrite.apply (w : LaneWrite) (g : Gte) : Gte :=
  { g with
    mac1 := w.mac1, mac2 := w.mac2, mac3 := w.mac3, ir1 := w.ir1, ir2 := w.ir2, ir3 := w.ir3,
    flag := w.flag ||| g.flag }

/-- In every GTE with `P`, `f` writes the same lanes and joins the same flags. -/
def Writes (P : Gte → Prop) (f : Gte → Gte) : Prop := ∃ w : LaneWrite, ∀ g, P g → f g = w.apply g

/-- A store to one lane writes that lane and joins flags. -/
theorem exists_setMacIr (l : Lane) (x : Int) (s : Nat) (lm : Bool) : ∃ m i a, ∀ g,
    Gte.setMacIr l x s lm g = ((g.putMac l m).putIr l i).mapFlag (.join a) := by
  obtain ⟨a, ha⟩ := joins_checkMac l x
  obtain ⟨b, hb⟩ := joins_raiseFlag (outside (irFloor lm) 0x7FFF (wrap32 (x >>> s))) (25 - l.number)
  refine ⟨BitVec.ofInt 32 (x >>> s), BitVec.ofInt 16 (limA lm (wrap32 (x >>> s))), b ||| a,
    fun g => ?_⟩
  rw [Gte.setMacIr, Gte.setIr, Gte.flagA, hb, Gte.setMac, ha, Gte.putMac_mapFlag,
    Gte.mapFlag_join_join, Gte.putIr_mapFlag]

/-- The three lanes replaced in order. -/
theorem Gte.putLanes_eq (m1 m2 m3 : Word) (i1 i2 i3 : Half) (g : Gte) :
    (((((g.putMac .one m1).putIr .one i1).putMac .two m2).putIr .two i2).putMac .three m3).putIr
      .three i3 =
      { g with mac1 := m1, mac2 := m2, mac3 := m3, ir1 := i1, ir2 := i2, ir3 := i3 } := by
  simp [Gte.putMac, Gte.putIr]

/-- A loop whose body writes its lane and joins flags writes the lanes. -/
theorem writes_forLanes {f : Lane → Gte → Gte} (hf : ∀ l, ∃ m i a, ∀ g,
    f l g = ((Gte.putMac l m g).putIr l i).mapFlag (.join a)) :
    Writes (fun _ => True) fun g => g.forLanes f := by
  obtain ⟨m1, i1, a1, h1⟩ := hf .one
  obtain ⟨m2, i2, a2, h2⟩ := hf .two
  obtain ⟨m3, i3, a3, h3⟩ := hf .three
  refine ⟨⟨m1, m2, m3, i1, i2, i3, a3 ||| (a2 ||| a1)⟩, fun g _ => ?_⟩
  simp only [Gte.forLanes, h1, h2, h3, Gte.putMac_mapFlag, Gte.putIr_mapFlag,
    Gte.mapFlag_join_join, Gte.putLanes_eq]
  rfl

/-- A matrix product with given operands writes the lanes (R425). -/
theorem writes_mulMat (m : IMat) (t : Option IVec) (v : IVec) (sh : Nat) (lm : Bool) :
    Writes (fun _ => True) (Gte.mulMat m t v sh lm) := by
  apply writes_forLanes
  intro l
  obtain ⟨a, ha⟩ := joins_checkRow l (t.map (IVec.at l)) (m.row l) v
  obtain ⟨n, i, b, hb⟩ := exists_setMacIr l (rowValue (t.map (IVec.at l)) (m.row l) v) sh lm
  refine ⟨n, i, b ||| a, fun g => ?_⟩
  rw [ha, hb, Gte.putMac_mapFlag, Gte.putIr_mapFlag, Gte.mapFlag_join_join]

/-- Three lanes stored in order are written (R405, R407). -/
theorem writes_setLanes (x1 x2 x3 : Int) (sh : Nat) (lm : Bool) :
    Writes (fun _ => True) (Gte.setLanes x1 x2 x3 sh lm) := by
  have h := writes_forLanes (f := fun l g => g.setMacIr l (IVec.at l ⟨x1, x2, x3⟩) sh lm)
    fun l => exists_setMacIr l _ sh lm
  exact h

end Sys2Proof.Machine
end

section
namespace Sys2Proof.Machine

/-! The stages of a colour, as lanes written -/

/-- A write over a write. -/
theorem LaneWrite.apply_apply (w w' : LaneWrite) (g : Gte) :
    w'.apply (w.apply g) = { w' with flag := w'.flag ||| w.flag : LaneWrite }.apply g := by
  simp [LaneWrite.apply, BitVec.or_assoc]

theorem LaneWrite.irVec_apply (w : LaneWrite) (g : Gte) :
    (w.apply g).irVec = ⟨w.ir1.toInt, w.ir2.toInt, w.ir3.toInt⟩ := rfl

/-- A stage that writes the lanes, after one that writes them. -/
theorem Writes.comp {P : Gte → Prop} {f h : Gte → Gte} (hf : Writes P f)
    (hh : ∀ w : LaneWrite, Writes P fun g => h (w.apply g)) : Writes P fun g => h (f g) := by
  obtain ⟨w, hf⟩ := hf
  obtain ⟨w', hh⟩ := hh w
  exact ⟨w', fun g hg => (congrArg h (hf g hg)).trans (hh g hg)⟩

/-- A stage is a write where it is the same as one in which no operand is read from the GTE. -/
theorem Writes.congr {P : Gte → Prop} {f h : Gte → Gte} (hh : Writes (fun _ => True) h)
    (e : ∀ g, P g → f g = h g) : Writes P f := by
  obtain ⟨w, hh⟩ := hh
  exact ⟨w, fun g hg => (e g hg).trans (hh g trivial)⟩

theorem Writes.after_write {h : Gte → Gte} (hh : Writes (fun _ => True) h) (w : LaneWrite) :
    Writes (fun _ => True) fun g => h (w.apply g) := by
  obtain ⟨w', hh⟩ := hh
  exact ⟨_, fun g _ => (hh _ trivial).trans (w.apply_apply w' g)⟩

/-- `g` has the operands of `g0` that an interpolation and a push read. -/
structure SameCue (g0 g : Gte) : Prop where
  fc : g.fc = g0.fc
  ir0 : g.ir0 = g0.ir0
  code : g.rgbc &&& 0xFF000000#32 = g0.rgbc &&& 0xFF000000#32

/-- `g` has the operands of `g0` that the lighting commands read, but for the vector. -/
structure SameLights (g0 g : Gte) : Prop where
  llm : g.llm = g0.llm
  lcm : g.lcm = g0.lcm
  bk : g.bk = g0.bk
  fc : g.fc = g0.fc
  ir0 : g.ir0 = g0.ir0
  rgbc : g.rgbc = g0.rgbc

theorem SameLights.sameCue {g0 g : Gte} (h : SameLights g0 g) : SameCue g0 g :=
  ⟨h.fc, h.ir0, by rw [h.rgbc]⟩

theorem SameCue.apply {g0 g : Gte} (h : SameCue g0 g) (w : LaneWrite) : SameCue g0 (w.apply g) :=
  ⟨h.fc, h.ir0, h.code⟩

theorem SameLights.apply {g0 g : Gte} (h : SameLights g0 g) (w : LaneWrite) :
    SameLights g0 (w.apply g) := ⟨h.llm, h.lcm, h.bk, h.fc, h.ir0, h.rgbc⟩

@[simp] theorem Gte.setMacIr_fc (l : Lane) (x : Int) (s : Nat) (lm : Bool) (g : Gte) :
    (g.setMacIr l x s lm).fc = g.fc := by
  obtain ⟨_, _, _, _, _, _, _, h⟩ := g.onlyLanes_setMacIr l x s lm
  rw [h]

@[simp] theorem Gte.setMacIr_ir0 (l : Lane) (x : Int) (s : Nat) (lm : Bool) (g : Gte) :
    (g.setMacIr l x s lm).ir0 = g.ir0 := by
  obtain ⟨_, _, _, _, _, _, _, h⟩ := g.onlyLanes_setMacIr l x s lm
  rw [h]

section
variable (g0 : Gte) (sh : Nat) (lm : Bool)

theorem Gte.interpFar_eq (m : IVec) (g : Gte) : g.interpFar m sh =
    g.setLanes (shl g.fc.x.toInt 12 - m.x) (shl g.fc.y.toInt 12 - m.y) (shl g.fc.z.toInt 12 - m.z)
      sh false :=
  Gte.forLanes_eq_setLanes (x := fun l g => shl (g.fc.toIVec.at l) 12 - m.at l)
    (fun _ y k => by simp) g

theorem Gte.interpNear_eq (m : IVec) (g : Gte) : g.interpNear m sh lm =
    g.setLanes (g.ir1.toInt * g.ir0.toInt + m.x) (g.ir2.toInt * g.ir0.toInt + m.y)
      (g.ir3.toInt * g.ir0.toInt + m.z) sh lm :=
  Gte.forLanes_eq_setLanes (x := fun l g => g.irAt l * g.ir0.toInt + m.at l)
    (fun h y k => by simp [Gte.irAt_setMacIr_of_ne h]) g

theorem writes_interp (m : IVec) : Writes (SameCue g0) (Gte.interp m sh lm) := by
  have hfar : Writes (SameCue g0) (Gte.interpFar m sh) :=
    (writes_setLanes _ _ _ sh false).congr fun g hg => by rw [Gte.interpFar_eq, hg.fc]
  refine hfar.comp (h := fun g => g.interpNear m sh lm) fun w => ?_
  exact ((writes_setLanes _ _ _ sh lm).after_write w).congr fun g hg => by
    rw [Gte.interpNear_eq, (hg.apply w).ir0, w.apply_ir1, w.apply_ir2, w.apply_ir3]

theorem writes_light (v : Vec16) : Writes (SameLights g0) (Gte.light v sh lm) := by
  have hlight : Writes (SameLights g0) fun g => g.mulMat g.llm.toIMat none v.toIVec sh lm :=
    (writes_mulMat _ _ _ sh lm).congr fun g hg => by rw [hg.llm]
  refine hlight.comp (h := fun g => g.colourTransform sh lm) fun w => ?_
  exact ((writes_mulMat _ _ _ sh lm).after_write w).congr fun g hg => by
    rw [Gte.colourTransform, (hg.apply w).lcm, (hg.apply w).bk, w.irVec_apply]

theorem writes_light_colourMul (v : Vec16) :
    Writes (SameLights g0) fun g => (g.light v sh lm).colourMul sh lm := by
  refine (writes_light g0 sh lm v).comp (h := fun g => g.colourMul sh lm) fun w => ?_
  exact ((writes_setLanes _ _ _ sh lm).after_write w).congr fun g hg => by
    rw [Gte.colourMul_eq, (hg.apply w).rgbc, w.apply_ir1, w.apply_ir2, w.apply_ir3]

theorem writes_light_depthCue (v : Vec16) :
    Writes (SameLights g0) fun g => (g.light v sh lm).depthCue sh lm := by
  refine (writes_light g0 sh lm v).comp (h := fun g => g.depthCue sh lm) fun w => ?_
  obtain ⟨w', h⟩ := writes_interp g0 sh lm (w.apply g0).colourProduct
  refine ⟨_, fun g hg => Eq.trans ?_ (w.apply_apply w' g)⟩
  have hproduct : (w.apply g).colourProduct = (w.apply g0).colourProduct := by
    rw [Gte.colourProduct, (hg.apply w).rgbc]
    rfl
  rw [← h _ (hg.sameCue.apply w), ← hproduct]
  rfl

/-- The MAC lanes loaded, with the flags joined. -/
theorem exists_forLanes_setMac (c : IVec) : ∃ m1 m2 m3 a, ∀ g : Gte,
    (g.forLanes fun l g => g.setMac l (shl (c.at l) 16) 0) =
      ({ g with mac1 := m1, mac2 := m2, mac3 := m3 } : Gte).mapFlag (.join a) := by
  obtain ⟨a1, h1⟩ := joins_checkMac .one (shl (c.at .one) 16)
  obtain ⟨a2, h2⟩ := joins_checkMac .two (shl (c.at .two) 16)
  obtain ⟨a3, h3⟩ := joins_checkMac .three (shl (c.at .three) 16)
  have hput : ∀ (m1 m2 m3 : Word) (g : Gte), ((g.putMac .one m1).putMac .two m2).putMac .three m3 =
      { g with mac1 := m1, mac2 := m2, mac3 := m3 } := fun _ _ _ g => by simp [Gte.putMac]
  exact ⟨_, _, _, a3 ||| (a2 ||| a1), fun g => by
    simp only [Gte.forLanes, Gte.setMac, h1, h2, h3, Gte.putMac_mapFlag, Gte.mapFlag_join_join, hput]
    rfl⟩

/-- `DPC(c)` before its push writes the lanes. -/
theorem writes_depthCueColour (c : IVec) : ∃ f, Writes (SameCue g0) f ∧
    ∀ g, Gte.depthCueColour c sh lm g = (f g).pushRgb := by
  obtain ⟨m1, m2, m3, a, hload⟩ := exists_forLanes_setMac c
  obtain ⟨w, hw⟩ := writes_interp g0 sh lm ⟨m1.toInt, m2.toInt, m3.toInt⟩
  refine ⟨fun g => (({ g with mac1 := m1, mac2 := m2, mac3 := m3 } : Gte).mapFlag (.join a)).interp
    ⟨m1.toInt, m2.toInt, m3.toInt⟩ sh lm, ⟨{ w with flag := w.flag ||| a }, fun g hg => ?_⟩,
    fun g => ?_⟩
  · have hcue : SameCue g0
        (({ g with mac1 := m1, mac2 := m2, mac3 := m3 } : Gte).mapFlag (.join a)) :=
      ⟨hg.fc, hg.ir0, hg.code⟩
    refine (hw _ hcue).trans ?_
    simp [LaneWrite.apply, Gte.mapFlag, FlagMap.join, BitVec.or_assoc]
  · rw [Gte.depthCueColour, hload]
    rfl

end

end Sys2Proof.Machine
end

section
namespace Sys2Proof.Machine

/-! A round of a colour command -/

/-- What a round leaves: the lanes, the colour it pushes, and flags to join. -/
structure ColourRound where
  lanes : LaneWrite
  rgb : Word

/-- The GTE after a round. -/
def ColourRound.apply (r : ColourRound) (g : Gte) : Gte :=
  { r.lanes.apply g with rgb0 := g.rgb1, rgb1 := g.rgb2, rgb2 := r.rgb }

/-- In every GTE with `P`, `f` is the same round. -/
def Rounds (P : Gte → Prop) (f : Gte → Gte) : Prop := ∃ r : ColourRound, ∀ g, P g → f g = r.apply g

/-- A push after lanes written is a round. -/
theorem Writes.rounds_pushRgb {P : Gte → Prop} {g0 : Gte} {f : Gte → Gte} (hf : Writes P f)
    (hP : ∀ g, P g → SameCue g0 g) : Rounds P fun g => (f g).pushRgb := by
  obtain ⟨w, hf⟩ := hf
  obtain ⟨a, ha⟩ : Joins fun g => ((g.flagB .one (w.mac1.toInt / 16)).flagB .two
      (w.mac2.toInt / 16)).flagB .three (w.mac3.toInt / 16) :=
    ((joins_raiseFlag _ _).comp (joins_raiseFlag _ _)).comp (joins_raiseFlag _ _)
  refine ⟨⟨{ w with flag := a ||| w.flag }, (w.apply g0).colourWord⟩, fun g hg => ?_⟩
  have hflags : (w.apply g).flagColours.flag = a ||| w.flag ||| g.flag := by
    refine (congrArg Gte.flag (ha (w.apply g))).trans ?_
    simp [Gte.mapFlag, FlagMap.join, LaneWrite.apply, BitVec.or_assoc]
  have hword : (w.apply g).colourWord = (w.apply g0).colourWord := by
    rw [Gte.colourWord_eq, Gte.colourWord_eq, (hP g hg).apply w |>.code]
    rfl
  show (f g).pushRgb = _
  rw [hf g hg, Gte.pushRgb_eq, hflags, hword]
  rfl

theorem rounds_normalColour (g0 : Gte) (v : Vec16) (sh : Nat) (lm : Bool) :
    Rounds (SameLights g0) (Gte.normalColour v sh lm) :=
  (writes_light g0 sh lm v).rounds_pushRgb fun _ h => h.sameCue

theorem rounds_normalColourColour (g0 : Gte) (v : Vec16) (sh : Nat) (lm : Bool) :
    Rounds (SameLights g0) (Gte.normalColourColour v sh lm) :=
  (writes_light_colourMul g0 sh lm v).rounds_pushRgb fun _ h => h.sameCue

theorem rounds_normalColourDepth (g0 : Gte) (v : Vec16) (sh : Nat) (lm : Bool) :
    Rounds (SameLights g0) (Gte.normalColourDepth v sh lm) :=
  (writes_light_depthCue g0 sh lm v).rounds_pushRgb fun _ h => h.sameCue

theorem rounds_depthCueColour (g0 : Gte) (c : IVec) (sh : Nat) (lm : Bool) :
    Rounds (SameCue g0) (Gte.depthCueColour c sh lm) := by
  obtain ⟨f, hf, h⟩ := writes_depthCueColour g0 sh lm c
  obtain ⟨r, hr⟩ := hf.rounds_pushRgb fun _ h => h
  exact ⟨r, fun g hg => (h g).trans (hr g hg)⟩

/-- Three rounds in a row, and each of them alone, with FLAG cleared at the start. -/
theorem threeColours_apply (r1 r2 r3 : ColourRound) {g k1 k2 k3 : Gte} (hg : g.flag = 0)
    (h1 : k1.flag = 0) (h2 : k2.flag = 0) (h3 : k3.flag = 0) :
    ThreeColours (r1.apply k1) (r2.apply k2) (r3.apply k3) (r3.apply (r2.apply (r1.apply g))) := by
  refine ⟨rfl, rfl, ⟨⟨rfl, rfl⟩, rfl⟩, fun k => ?_⟩
  simp [ColourRound.apply, hg, h1, h2, h3]
  tauto

/-- Three rounds of functions that are rounds in all GTEs with `P`, which a round keeps. -/
theorem Rounds.threeColours {P : Gte → Prop} {f1 f2 f3 : Gte → Gte} (h1 : Rounds P f1)
    (h2 : Rounds P f2) (h3 : Rounds P f3) (hP : ∀ (r : ColourRound) g, P g → P (r.apply g))
    {g k1 k2 k3 : Gte} (hg : P g.clearFlag) (hk1 : P k1.clearFlag) (hk2 : P k2.clearFlag)
    (hk3 : P k3.clearFlag) :
    ThreeColours (f1 k1.clearFlag) (f2 k2.clearFlag) (f3 k3.clearFlag)
      (f3 (f2 (f1 g.clearFlag))) := by
  obtain ⟨r1, h1⟩ := h1
  obtain ⟨r2, h2⟩ := h2
  obtain ⟨r3, h3⟩ := h3
  have hg1 := hP r1 _ hg
  rw [h1 _ hk1, h2 _ hk2, h3 _ hk3, h1 _ hg, h2 _ hg1, h3 _ (hP r2 _ hg1)]
  exact threeColours_apply r1 r2 r3 rfl rfl rfl rfl

theorem SameLights.apply_round {g0 g : Gte} (r : ColourRound) (h : SameLights g0 g) :
    SameLights g0 (r.apply g) := ⟨h.llm, h.lcm, h.bk, h.fc, h.ir0, h.rgbc⟩

theorem SameCue.apply_round {g0 g : Gte} (r : ColourRound) (h : SameCue g0 g) :
    SameCue g0 (r.apply g) := ⟨h.fc, h.ir0, h.code⟩

/-- Three rounds on the three vectors of a GTE, and each alone on the vector it moves to V0. -/
theorem threeColours_vectors {f : Vec16 → Gte → Gte} {g : Gte}
    (hf : ∀ v, Rounds (SameLights g) (f v)) :
    ThreeColours (f g.v0 g.clearFlag) (f g.v1 { g with v0 := g.v1 }.clearFlag)
      (f g.v2 { g with v0 := g.v2 }.clearFlag) (f g.v2 (f g.v1 (f g.v0 g.clearFlag))) :=
  (hf g.v0).threeColours (hf g.v1) (hf g.v2) (fun r _ h => h.apply_round r)
    ⟨rfl, rfl, rfl, rfl, rfl, rfl⟩ ⟨rfl, rfl, rfl, rfl, rfl, rfl⟩ ⟨rfl, rfl, rfl, rfl, rfl, rfl⟩
    ⟨rfl, rfl, rfl, rfl, rfl, rfl⟩

end Sys2Proof.Machine
end

section
/-! ### Rounds of RTP -/

namespace Sys2Proof.Machine

/-! The scalar stores and the pushes, as writes that join flags -/

theorem joins_checkMac0 (x : Int) : Joins (Gte.checkMac0 x) :=
  (joins_raiseFlag _ _).comp (joins_raiseFlag _ _)

theorem joins_flagD (x y : Int) : Joins (Gte.flagD x y) :=
  (joins_raiseFlag _ _).comp (joins_raiseFlag _ _)

theorem exists_setMac0 (x : Int) : ∃ m a, ∀ g : Gte,
    g.setMac0 x = ({ g with mac0 := m } : Gte).mapFlag (.join a) := by
  obtain ⟨a, h⟩ := joins_checkMac0 x
  exact ⟨BitVec.ofInt 32 x, a, fun g => by rw [Gte.setMac0, h]; rfl⟩

theorem exists_setIr0 (v : Int) : ∃ i a, ∀ g : Gte,
    g.setIr0 v = ({ g with ir0 := i } : Gte).mapFlag (.join a) := by
  obtain ⟨a, h⟩ : Joins (Gte.flagE v) := joins_raiseFlag _ _
  exact ⟨BitVec.ofInt 16 (limE v), a, fun g => by rw [Gte.setIr0, h]; rfl⟩

theorem exists_pushSz (v : Int) : ∃ z a, ∀ g : Gte, g.pushSz v =
    ({ g with sz0 := g.sz1, sz1 := g.sz2, sz2 := g.sz3, sz3 := z } : Gte).mapFlag (.join a) := by
  obtain ⟨a, h⟩ : Joins (Gte.flagC v) := joins_raiseFlag _ _
  exact ⟨BitVec.ofInt 16 (limC v), a, fun g => by rw [Gte.pushSz, h]; rfl⟩

theorem exists_pushSxy (x y : Int) : ∃ p a, ∀ g : Gte, g.pushSxy x y =
    ({ g with sxy0 := g.sxy1, sxy1 := g.sxy2, sxy2 := p } : Gte).mapFlag (.join a) := by
  obtain ⟨a, h⟩ := joins_flagD x y
  exact ⟨⟨BitVec.ofInt 16 (limD x), BitVec.ofInt 16 (limD y)⟩, a, fun g => by
    rw [Gte.pushSxy, h]; rfl⟩

/-- `g` has the operands of `g0` that RTP reads, but for the vector. -/
structure SameView (g0 g : Gte) : Prop where
  rt : g.rt = g0.rt
  tr : g.tr = g0.tr
  h : g.h = g0.h
  ofx : g.ofx = g0.ofx
  ofy : g.ofy = g0.ofy
  dqa : g.dqa = g0.dqa
  dqb : g.dqb = g0.dqb

/-- What a round of RTP leaves: the lanes, MAC0, the entries it pushes, and flags to join. -/
structure VertexRound where
  lanes : LaneWrite
  mac0 : Word
  sz : Half
  sxy : ScreenXY

/-- The GTE after a round of RTP. -/
def VertexRound.apply (r : VertexRound) (g : Gte) : Gte :=
  { r.lanes.apply g with
    mac0 := r.mac0
    sz0 := g.sz1, sz1 := g.sz2, sz2 := g.sz3, sz3 := r.sz
    sxy0 := g.sxy1, sxy1 := g.sxy2, sxy2 := r.sxy }

theorem exists_setMac (l : Lane) (x : Int) (s : Nat) : ∃ m a, ∀ g : Gte,
    g.setMac l x s = (g.putMac l m).mapFlag (.join a) := by
  obtain ⟨a, h⟩ := joins_checkMac l x
  exact ⟨BitVec.ofInt 32 (x >>> s), a, fun g => by rw [Gte.setMac, h, Gte.putMac_mapFlag]⟩

theorem exists_setIr (l : Lane) (v : Int) (lm : Bool) : ∃ i a, ∀ g : Gte,
    g.setIr l v lm = (g.putIr l i).mapFlag (.join a) := by
  obtain ⟨a, h⟩ := joins_raiseFlag (outside (irFloor lm) 0x7FFF v) (25 - l.number)
  exact ⟨BitVec.ofInt 16 (limA lm v), a, fun g => by
    rw [Gte.setIr, Gte.flagA, h, Gte.putIr_mapFlag]⟩

/-- The MAC lanes and then the IR lanes replaced. -/
theorem Gte.putLanes_in_order (m1 m2 m3 : Word) (i1 i2 i3 : Half) (g : Gte) :
    (((((g.putMac .one m1).putMac .two m2).putMac .three m3).putIr .one i1).putIr .two i2).putIr
      .three i3 =
      { g with mac1 := m1, mac2 := m2, mac3 := m3, ir1 := i1, ir2 := i2, ir3 := i3 } := by
  simp [Gte.putMac, Gte.putIr]

/-- The lanes and the Z FIFO after the transform of a vertex, with FLAG left alone. -/
@[simps] def Gte.putVertex (w : LaneWrite) (z : Half) (g : Gte) : Gte :=
  { g with
    mac1 := w.mac1, mac2 := w.mac2, mac3 := w.mac3, ir1 := w.ir1, ir2 := w.ir2, ir3 := w.ir3
    sz0 := g.sz1, sz1 := g.sz2, sz2 := g.sz3, sz3 := z }

/-- The lanes and the Z push of a round, from operands that every GTE of the round has. -/
theorem exists_rtpTransform (g0 : Gte) (v : Vec16) (sh : Nat) (lm : Bool) :
    ∃ (w : LaneWrite) (z : Half), ∀ g, SameView g0 g →
      g.rtpTransform v sh lm = (g.putVertex w z).mapFlag (.join w.flag) := by
  choose arow hrow using joins_checkRow
  choose m amac hmac using exists_setMac
  choose i air hir using exists_setIr
  choose araise hraise using joins_raiseFlag
  choose z az hz using exists_pushSz
  exact ⟨⟨_, _, _, _, _, _, _⟩, _, fun g hg => by
    rw [Gte.rtpTransform, hg.rt]
    simp only [hg.tr, Gte.forLanes, Gte.mapFlag_tr, hrow, hmac, hir, hraise, Gte.putMac_mapFlag,
      Gte.putIr_mapFlag, Gte.mapFlag_join_join, Gte.pushSz_mapFlag]
    rw [hz, Gte.mapFlag_join_join, Gte.putLanes_in_order]
    rfl⟩

/-- The screen point of a round, from the same operands and the Z just pushed. -/
theorem exists_rtpScreen (g0 : Gte) (w : LaneWrite) (z : Half) : ∃ m p a, ∀ g, SameView g0 g →
    (g.putVertex w z).rtpScreen =
      ({ g.putVertex w z with
        mac0 := m
        sxy0 := (g.putVertex w z).sxy1, sxy1 := (g.putVertex w z).sxy2, sxy2 := p } : Gte).mapFlag
          (.join a) := by
  choose araise hraise using joins_raiseFlag
  choose m amac hmac using exists_setMac0
  choose p axy hxy using exists_pushSxy
  exact ⟨_, _, _, fun g hg => by
    conv_lhs =>
      simp only [Gte.rtpScreen, Gte.quotient, Gte.flagDivide, Gte.putVertex_h, Gte.putVertex_sz3,
        Gte.putVertex_ir1, Gte.putVertex_ir2, Gte.putVertex_ofx, Gte.putVertex_ofy, hg.h, hg.ofx,
        hg.ofy, hraise, Gte.setMac0_mapFlag, Gte.pushSxy_mapFlag]
    rw [hmac _ (g.putVertex w z), Gte.setMac0_mapFlag, hmac,
      Gte.pushSxy_mapFlag, Gte.pushSxy_mapFlag, hxy]
    simp only [Gte.mapFlag_join_join]
    rfl⟩

/-- A vertex is the same round in all GTEs with the same operands (R451). -/
theorem exists_rtp (g0 : Gte) (v : Vec16) (sh : Nat) (lm : Bool) :
    ∃ r : VertexRound, ∀ g, SameView g0 g → g.rtp v sh lm = r.apply g := by
  obtain ⟨w, z, htransform⟩ := exists_rtpTransform g0 v sh lm
  obtain ⟨m, p, a, hscreen⟩ := exists_rtpScreen g0 w z
  refine ⟨⟨{ w with flag := w.flag ||| a }, m, z, p⟩, fun g hg => ?_⟩
  rw [Gte.rtp, htransform g hg, Gte.rtpScreen_mapFlag, hscreen g hg, Gte.mapFlag_join_join]
  rfl

/-- What the depth cue leaves: MAC0, IR0 and flags to join. -/
structure DepthWrite where
  mac0 : Word
  ir0 : Half
  flag : Word

/-- The GTE after the depth cue. -/
def DepthWrite.apply (d : DepthWrite) (g : Gte) : Gte :=
  { g with mac0 := d.mac0, ir0 := d.ir0, flag := d.flag ||| g.flag }

/-- The depth cue after a round is the same in all GTEs with the same operands. -/
theorem exists_rtpDepth (g0 : Gte) (r : VertexRound) : ∃ d : DepthWrite, ∀ g, SameView g0 g →
    (r.apply g).rtpDepth = d.apply (r.apply g) := by
  choose m amac hmac using exists_setMac0
  choose i air hir using exists_setIr0
  have hq : ∀ g, SameView g0 g → (r.apply g).quotient = (r.apply g0).quotient := by
    intro g hg
    rw [Gte.quotient, show (r.apply g).h = g0.h from hg.h]
    rfl
  have hdqa : ∀ g, SameView g0 g → (r.apply g).dqa = g0.dqa := fun g hg => hg.dqa
  have hdqb : ∀ g, SameView g0 g → (r.apply g).dqb = g0.dqb := fun g hg => hg.dqb
  exact ⟨⟨_, _, _⟩, fun g hg => by
    simp only [Gte.rtpDepth, hq g hg, hdqa g hg, hdqb g hg]
    rw [hmac, Gte.setIr0_mapFlag, hir, Gte.mapFlag_join_join]
    rfl⟩

end Sys2Proof.Machine
end

section
/-! ### The flags of RTP -/

namespace Sys2Proof.Machine

/-- The flags below bit 18 are those of before: no lane and no Z flag is there (R66). -/
def Gte.SameLowFlags (g h : Gte) : Prop := ∀ k < 18, h.flag.getLsbD k = g.flag.getLsbD k

theorem Gte.SameLowFlags.trans {g h k : Gte} (hgh : g.SameLowFlags h) (hhk : h.SameLowFlags k) :
    g.SameLowFlags k := fun i hi => (hhk i hi).trans (hgh i hi)

theorem Gte.sameLowFlags_raiseFlag (c : Bool) {b : Nat} (hb : 18 ≤ b) (hb' : b < 32) (g : Gte) :
    g.SameLowFlags (g.raiseFlag c b) := by
  intro k hk
  rw [Gte.raiseFlag_bit c b k g hb']
  simp [show k ≠ b by omega]

theorem Lane.number_le_three (l : Lane) : l.number ≤ 3 := by cases l <;> decide

theorem Gte.sameLowFlags_checkMac (l : Lane) (x : Int) (g : Gte) : g.SameLowFlags (g.checkMac l x) := by
  have := l.number_le_three
  exact (Gte.sameLowFlags_raiseFlag _ (by omega) (by omega) g).trans
    (Gte.sameLowFlags_raiseFlag _ (by omega) (by omega) _)

theorem Gte.sameLowFlags_checkRow (l : Lane) (t : Option Int) (m v : IVec) (g : Gte) :
    g.SameLowFlags (g.checkRow l t m v) := by
  cases t with
  | none => exact g.sameLowFlags_checkMac l _
  | some t => exact (g.sameLowFlags_checkMac l _).trans (Gte.sameLowFlags_checkMac l _ _)

theorem Gte.sameLowFlags_setMac (l : Lane) (x : Int) (s : Nat) (g : Gte) :
    g.SameLowFlags (g.setMac l x s) := g.sameLowFlags_checkMac l x

theorem Gte.sameLowFlags_setIr (l : Lane) (v : Int) (lm : Bool) (g : Gte) :
    g.SameLowFlags (g.setIr l v lm) := by
  have := l.number_le_three
  exact Gte.sameLowFlags_raiseFlag _ (by omega) (by omega) g

theorem Gte.sameLowFlags_forLanes {f : Lane → Gte → Gte} (hf : ∀ l g, Gte.SameLowFlags g (f l g))
    (g : Gte) : g.SameLowFlags (g.forLanes f) := ((hf .one g).trans (hf .two _)).trans (hf .three _)

theorem Gte.sameLowFlags_putIr (l : Lane) (v : Half) (g : Gte) : g.SameLowFlags (g.putIr l v) :=
  fun _ _ => rfl

theorem Gte.sameLowFlags_pushSz (v : Int) (g : Gte) : g.SameLowFlags (g.pushSz v) :=
  Gte.sameLowFlags_raiseFlag _ (by omega) (by omega) g

theorem Gte.sameLowFlags_rtpTransform (v : Vec16) (sh : Nat) (lm : Bool) (g : Gte) :
    g.SameLowFlags (g.rtpTransform v sh lm) := by
  refine .trans (.trans (.trans (.trans (.trans (.trans (Gte.sameLowFlags_forLanes ?_ _)
    (Gte.sameLowFlags_forLanes ?_ _)) (Gte.sameLowFlags_setIr _ _ _ _))
    (Gte.sameLowFlags_setIr _ _ _ _)) (Gte.sameLowFlags_raiseFlag _ (b := 22) (by omega) (by omega) _))
    (Gte.sameLowFlags_putIr _ _ _)) (Gte.sameLowFlags_pushSz _ _)
  · exact fun l k => k.sameLowFlags_checkRow l _ _ _
  · exact fun l k => k.sameLowFlags_setMac l _ _

theorem Gte.flagAdds_setMac0 (x : Int) (g : Gte) : Gte.FlagAdds (mac0Flags x) g (g.setMac0 x) :=
  (Gte.flagAdds_raiseFlag decide_eq_true_iff (by omega) g).trans
    (Gte.flagAdds_raiseFlag decide_eq_true_iff (by omega) _)

theorem Gte.flagAdds_pushSxy (x y : Int) (g : Gte) :
    Gte.FlagAdds [(14, Outside (-0x400) 0x3FF x), (13, Outside (-0x400) 0x3FF y)] g
      (g.pushSxy x y) :=
  (Gte.flagAdds_raiseFlag (outside_iff _ _ _) (by omega) g).trans
    (Gte.flagAdds_raiseFlag (outside_iff _ _ _) (by omega) _)

theorem Gte.flagAdds_setIr0 (v : Int) (g : Gte) :
    Gte.FlagAdds [(12, Outside 0 0x1000 v)] g (g.setIr0 v) :=
  Gte.flagAdds_raiseFlag (outside_iff _ _ _) (by omega) g

/-- Of MAC0's flags and IR0's, the screen point raises MAC0's alone, for its two coordinates (R451). -/
theorem Gte.flag_rtpScreen (g : Gte) {k : Nat} (hk : k ∈ [12, 15, 16]) :
    g.rtpScreen.flag.getLsbD k = true ↔
      g.flag.getLsbD k = true ∨ Flagged (screenFlags g.quotient g) k := by
  have hdivide : Gte.FlagAdds [(17, _ = true)] g g.flagDivide :=
    Gte.flagAdds_raiseFlag Iff.rfl (by omega) g
  refine ((((hdivide.trans (Gte.flagAdds_setMac0 _ _)).trans (Gte.flagAdds_setMac0 _ _)).trans
    (Gte.flagAdds_pushSxy _ _ _)) k).trans ?_
  have h13 : k ≠ 13 ∧ k ≠ 14 ∧ k ≠ 17 := by
    simp only [List.mem_cons, List.not_mem_nil, or_false] at hk
    omega
  simp [screenFlags, h13]

/-- The depth cue raises flags 12, 15 and 16 at most. -/
theorem Gte.flag_rtpDepth (g : Gte) {k : Nat} (hk : k ∉ [12, 15, 16]) :
    g.rtpDepth.flag.getLsbD k = g.flag.getLsbD k := by
  rw [Bool.eq_iff_iff]
  refine (((Gte.flagAdds_setMac0 _ _).trans (Gte.flagAdds_setIr0 _ _)) k).trans ?_
  simp at hk
  simp [mac0Flags, hk]

end Sys2Proof.Machine
end

section
/-! ### The commands of three vertices or colours -/

namespace Sys2Proof.Machine

/-! DPCT -/

section
variable (w : Word) (g : Gte)

theorem colours_withColours : colours (withColours w g).rgbc = colours w := by
  have h : ∀ i < 24, (withColours w g).rgbc.getLsbD i = w.getLsbD i := by
    intro i hi
    interval_cases i <;> simp [withColours]
  have hbyte : ∀ lo ≤ 16, byteAt lo (withColours w g).rgbc = byteAt lo w := by
    intro lo hlo
    apply BitVec.eq_of_getLsbD_eq
    intro i hi
    simp [byteAt, h (lo + i) (by omega)]
  simp [colours, hbyte]

theorem sameCue_withColours : SameCue g (withColours w g).clearFlag := by
  refine ⟨rfl, rfl, ?_⟩
  apply BitVec.eq_of_getLsbD_eq
  intro i hi
  interval_cases i <;> simp [withColours, Gte.clearFlag]

end

section
variable (sh : Nat) (lm : Bool) (g : Gte)

/-- A round of DPCT moves the colour FIFO by one. -/
theorem Gte.fifo_depthCueColour (c : IVec) : (g.depthCueColour c sh lm).rgb0 = g.rgb1 ∧
    (g.depthCueColour c sh lm).rgb1 = g.rgb2 := by
  obtain ⟨r, hr⟩ := rounds_depthCueColour g c sh lm
  rw [hr g ⟨rfl, rfl, rfl⟩]
  exact ⟨rfl, rfl⟩

/-- DPCT takes the three entries of the colour FIFO, the oldest first (R457). -/
theorem Gte.depthCueOldest_three :
    ((g.depthCueOldest sh lm).depthCueOldest sh lm).depthCueOldest sh lm =
      ((g.depthCueColour (colours g.rgb0) sh lm).depthCueColour (colours g.rgb1) sh
        lm).depthCueColour (colours g.rgb2) sh lm := by
  simp [Gte.depthCueOldest, Gte.fifo_depthCueColour]

/-- The rounds of DPCT, and those of DPCS on the three colours. -/
theorem threeColours_depthCue :
    ThreeColours ((withColours g.rgb0 g).clearFlag.depthCueColour (colours g.rgb0) sh lm)
      ((withColours g.rgb1 g).clearFlag.depthCueColour (colours g.rgb1) sh lm)
      ((withColours g.rgb2 g).clearFlag.depthCueColour (colours g.rgb2) sh lm)
      (((g.clearFlag.depthCueOldest sh lm).depthCueOldest sh lm).depthCueOldest sh lm) := by
  rw [Gte.depthCueOldest_three]
  exact (rounds_depthCueColour g _ sh lm).threeColours (rounds_depthCueColour g _ sh lm)
    (rounds_depthCueColour g _ sh lm) (fun r _ h => h.apply_round r) ⟨rfl, rfl, rfl⟩
    (sameCue_withColours _ g) (sameCue_withColours _ g) (sameCue_withColours _ g)

end

/-! RTPT -/

theorem SameView.apply {g0 g : Gte} (r : VertexRound) (h : SameView g0 g) :
    SameView g0 (r.apply g) := ⟨h.rt, h.tr, h.h, h.ofx, h.ofy, h.dqa, h.dqb⟩

/-- The screen point leaves what its own flags are made from. -/
theorem Gte.screenFlags_rtpScreen (g : Gte) :
    screenFlags g.rtpScreen.quotient g.rtpScreen = screenFlags g.quotient g := by
  obtain ⟨_, _, hx⟩ := exists_setMac0 (g.quotient * g.ir1.toInt + g.ofx.toInt)
  obtain ⟨_, _, hy⟩ := exists_setMac0 (g.quotient * g.ir2.toInt + g.ofy.toInt)
  obtain ⟨_, _, hpush⟩ := exists_pushSxy _ _
  obtain ⟨_, hdivide⟩ : g.OnlyFlag g.flagDivide := Gte.onlyFlag_raiseFlag _ _ _
  rw [Gte.rtpScreen, hdivide, hx, hy, hpush]
  rfl

/-- Of flags 12, 15 and 16, a round raises MAC0's alone, for its screen coordinates. -/
theorem flag_vertexRound {g : Gte} {v : Vec16} {sh : Nat} {lm : Bool} {r : VertexRound}
    (hr : g.rtp v sh lm = r.apply g) (hg : g.flag = 0) {k : Nat} (hk : k ∈ [12, 15, 16]) :
    r.lanes.flag.getLsbD k = true ↔ Flagged (screenFlags (r.apply g).quotient (r.apply g)) k := by
  have hlow : k < 18 := by
    simp only [List.mem_cons, List.not_mem_nil, or_false] at hk
    omega
  have hflag := (g.rtpTransform v sh lm).flag_rtpScreen hk
  rw [g.sameLowFlags_rtpTransform v sh lm k hlow, hg, ← Gte.screenFlags_rtpScreen] at hflag
  rw [Gte.rtp] at hr
  rw [hr] at hflag
  simpa [VertexRound.apply, hg] using hflag

/-- `t` is three rounds of RTP, the last with the depth cue, and `u1`, `u2` and `u3` are each vertex
alone with the depth cue: the values and the flags of R452. -/
structure ThreeVertices (g u1 u2 u3 t : Gte) : Prop where
  sz : t.sz0 = g.sz3 ∧ t.sz1 = u1.sz3 ∧ t.sz2 = u2.sz3 ∧ t.sz3 = u3.sz3
  sxy : t.sxy0 = u1.sxy2 ∧ t.sxy1 = u2.sxy2 ∧ t.sxy2 = u3.sxy2
  scalars : t.ir0 = u3.ir0 ∧ t.mac0 = u3.mac0
  lanes : SameLanes u3 t
  height : u1.h = g.h ∧ u2.h = g.h
  joined : ∀ k, k ∉ [12, 15, 16] → (t.flag.getLsbD k = true ↔
    u1.flag.getLsbD k = true ∨ u2.flag.getLsbD k = true ∨ u3.flag.getLsbD k = true)
  factor : t.flag.getLsbD 12 = u3.flag.getLsbD 12
  mac0 : ∀ k ∈ [15, 16], (t.flag.getLsbD k = true ↔ u3.flag.getLsbD k = true ∨
    Flagged (screenFlags u1.quotient u1) k ∨ Flagged (screenFlags u2.quotient u2) k)

/-- Three rounds of RTP on the three vectors, and each alone with its depth cue. -/
theorem threeVertices_rtp (g : Gte) (v1 v2 v3 : Vec16) (sh : Nat) (lm : Bool) {k1 k2 k3 : Gte}
    (hg : SameView g g.clearFlag) (h1 : SameView g k1.clearFlag) (h2 : SameView g k2.clearFlag)
    (h3 : SameView g k3.clearFlag) :
    ThreeVertices g (k1.clearFlag.rtpLast v1 sh lm) (k2.clearFlag.rtpLast v2 sh lm)
      (k3.clearFlag.rtpLast v3 sh lm)
      (((g.clearFlag.rtp v1 sh lm).rtp v2 sh lm).rtpLast v3 sh lm) := by
  obtain ⟨r1, hr1⟩ := exists_rtp g v1 sh lm
  obtain ⟨r2, hr2⟩ := exists_rtp g v2 sh lm
  obtain ⟨r3, hr3⟩ := exists_rtp g v3 sh lm
  obtain ⟨d1, hd1⟩ := exists_rtpDepth g r1
  obtain ⟨d2, hd2⟩ := exists_rtpDepth g r2
  obtain ⟨d3, hd3⟩ := exists_rtpDepth g r3
  have hg1 := hg.apply r1
  have hg2 := hg1.apply r2
  have hf1 := fun k => flag_vertexRound (hr1 _ h1) rfl (k := k)
  have hf2 := fun k => flag_vertexRound (hr2 _ h2) rfl (k := k)
  have hc1 := fun k => (r1.apply k1.clearFlag).flag_rtpDepth (k := k)
  have hc2 := fun k => (r2.apply k2.clearFlag).flag_rtpDepth (k := k)
  simp only [Gte.rtpLast, hr1 _ h1, hr2 _ h2, hr3 _ h3, hr1 _ hg, hr2 _ hg1, hr3 _ hg2, hd1 _ h1,
    hd2 _ h2, hd3 _ h3, hd3 _ hg2] at hc1 hc2 ⊢
  exact {
    sz := ⟨rfl, rfl, rfl, rfl⟩
    sxy := ⟨rfl, rfl, rfl⟩
    scalars := ⟨rfl, rfl⟩
    lanes := ⟨rfl, rfl⟩
    height := ⟨h1.h, h2.h⟩
    joined := fun k hk => by
      rw [hc1 k hk, hc2 k hk]
      simp [DepthWrite.apply, VertexRound.apply, Gte.clearFlag]
      tauto
    factor := by
      have h1 := hf1 12 (by decide)
      have h2 := hf2 12 (by decide)
      simp [screenFlags, mac0Flags] at h1 h2
      simp [DepthWrite.apply, VertexRound.apply, Gte.clearFlag, h1, h2]
    mac0 := fun k hk => by
      have hk' := List.mem_cons_of_mem 12 hk
      refine Iff.trans ?_ (or_congr_right (or_congr (hf1 k hk') (hf2 k hk')))
      simp [DepthWrite.apply, VertexRound.apply, Gte.clearFlag]
      tauto }

/-! The commands -/

section
variable {s : State} (hu : s.cop0.sr.getLsbD 30 = true)
include hu

/-- A GTE command in the state with another GTE. -/
theorem exec_with_gte {i : Instr} {f : Gte → Gte} (hi : ∀ s, exec i s = gteCommand f s) (g : Gte) :
    exec i { s with gte := g } = .next { s with gte := f g.clearFlag, pc := s.pc + 4 } :=
  (hi _).trans (gteCommand_of_usable (s := { s with gte := g }) hu f)

/-- A lighting command of three vectors, and the command of one. -/
theorem runs_threeVectors {i j : Instr} {f : Vec16 → Gte → Gte}
    (hf : ∀ v, Rounds (SameLights s.gte) (f v))
    (hi : ∀ s, exec i s = gteCommand (fun g => f g.v2 (f g.v1 (f g.v0 g))) s)
    (hj : ∀ s, exec j s = gteCommand (fun g => f g.v0 g) s) :
    Runs i s fun t => Runs j s fun u1 =>
      Runs j { s with gte := { s.gte with v0 := s.gte.v1 } } fun u2 =>
      Runs j { s with gte := { s.gte with v0 := s.gte.v2 } } fun u3 =>
        ThreeColours u1.gte u2.gte u3.gte t.gte :=
  ⟨_, exec_with_gte hu hi s.gte, _, exec_with_gte hu hj s.gte, _, exec_with_gte hu hj _,
    _, exec_with_gte hu hj _, threeColours_vectors hf⟩

variable (sf lm : Bool)

theorem runs_dpct : Runs (.dpct sf lm) s fun t =>
    Runs (.dpcs sf lm) { s with gte := withColours s.gte.rgb0 s.gte } fun u1 =>
    Runs (.dpcs sf lm) { s with gte := withColours s.gte.rgb1 s.gte } fun u2 =>
    Runs (.dpcs sf lm) { s with gte := withColours s.gte.rgb2 s.gte } fun u3 =>
      ThreeColours u1.gte u2.gte u3.gte t.gte := by
  have hj := exec_with_gte hu (i := .dpcs sf lm)
    (f := fun g => g.depthCueColour (colours g.rgbc) (shiftOf sf) lm)
    fun s => show execDpcs sf lm s = _ from rfl
  refine ⟨_, show execDpct sf lm s = _ from gteCommand_of_usable hu _, _, hj _, _, hj _, _, hj _, ?_⟩
  have hbytes : ∀ w, colours (withColours w s.gte).clearFlag.rgbc = colours w :=
    fun w => colours_withColours w s.gte
  simpa only [hbytes] using threeColours_depthCue (shiftOf sf) lm s.gte

theorem runs_rtpt : Runs (.rtpt sf lm) s fun t => Runs (.rtps sf lm) s fun u1 =>
    Runs (.rtps sf lm) { s with gte := { s.gte with v0 := s.gte.v1 } } fun u2 =>
    Runs (.rtps sf lm) { s with gte := { s.gte with v0 := s.gte.v2 } } fun u3 =>
      ThreeVertices s.gte u1.gte u2.gte u3.gte t.gte := by
  have hj := exec_with_gte hu (i := .rtps sf lm) (f := fun g => g.rtpLast g.v0 (shiftOf sf) lm)
    fun s => show execRtps sf lm s = _ from rfl
  have hview : ∀ v, SameView s.gte ({ s.gte with v0 := v } : Gte).clearFlag :=
    fun _ => ⟨rfl, rfl, rfl, rfl, rfl, rfl, rfl⟩
  exact ⟨_, show execRtpt sf lm s = _ from gteCommand_of_usable hu _, _, hj s.gte, _, hj _, _, hj _,
    threeVertices_rtp s.gte _ _ _ (shiftOf sf) lm (hview _) (hview _) (hview _) (hview _)⟩

end

/-- Settles O59: a round writes values and flags that do not depend on what the rounds before it
wrote. -/
theorem tripleCommands : Obligations.TripleCommands := by
  unfold Obligations.TripleCommands
  intro s sf lm hu
  refine ⟨?_, runs_dpct hu sf lm, ?_⟩
  · simp only [List.forall_mem_cons, List.not_mem_nil, IsEmpty.forall_iff, implies_true, and_true]
    exact ⟨runs_threeVectors hu (fun v => rounds_normalColour _ v (shiftOf sf) lm)
        (fun s => show execNct sf lm s = _ from rfl) fun s => show execNcs sf lm s = _ from rfl,
      runs_threeVectors hu (fun v => rounds_normalColourColour _ v (shiftOf sf) lm)
        (fun s => show execNcct sf lm s = _ from rfl) fun s => show execNccs sf lm s = _ from rfl,
      runs_threeVectors hu (fun v => rounds_normalColourDepth _ v (shiftOf sf) lm)
        (fun s => show execNcdt sf lm s = _ from rfl) fun s => show execNcds sf lm s = _ from rfl⟩
  · obtain ⟨t, ht, u1, h1, u2, h2, u3, h3, h⟩ := runs_rtpt hu sf lm
    obtain ⟨hsz0, hsz1, hsz2, hsz3⟩ := h.sz
    obtain ⟨hsxy0, hsxy1, hsxy2⟩ := h.sxy
    refine ⟨t, ht, u1, h1, u2, h2, u3, h3, hsz0, hsz1, hsz2, hsz3, hsxy0, hsxy1, hsxy2,
      h.scalars.1, h.scalars.2, h.lanes, ?_, h.factor, ?_⟩
    · simpa using h.joined
    · simpa [Gte.quotient, h.height, Flagged] using h.mac0

end Sys2Proof.Machine
end

section
/-! ### What each family of instructions leaves unchanged -/

namespace Sys2Proof.Machine

/-- What an instruction of family `f` that leads from `s` to `t` leaves unchanged. -/
structure FamilyFrame (f : Family) (s t : State) : Prop where
  hiLo : f ≠ .mulDiv → t.hi = s.hi ∧ t.lo = s.lo
  gte : f.needsGte = false ∨ s.gteUsable = false → t.gte = s.gte
  memory : f.storesMemory = false → t.mem = s.mem
  bus : f.callsBus = false → t.busCalls = s.busCalls
  cop0 : f ≠ .cop0 → s.trapped = false → t.trapped = false → t.cop0 = s.cop0
  branch : f ≠ .control → s.trapped = false → t.trapped = false →
    t.bdPending = s.bdPending ∧ t.bdTarget = s.bdTarget
  cycles : t.cycles = s.cycles
  fatal : t.fatal = s.fatal
  irqLevels : t.irqLevels = s.irqLevels

/-- `advance` writes the program counter only, which is in no frame. -/
theorem FamilyFrame.advance {f : Family} {s t : State} (h : FamilyFrame f s t) :
    FamilyFrame f s t.advance := { h with }

/-- Where a family needs the GTE and the GTE is usable, its frame says nothing of the GTE. -/
theorem FamilyFrame.setGte {f : Family} {s t : State} (h : FamilyFrame f s t)
    (hf : f.needsGte = true) (hu : s.gteUsable = true) (g : Gte) :
    FamilyFrame f s { t with gte := g } := { h with gte := by simp [hf, hu] }

section
variable (f : Family) (s : State)

/-- Every frame allows leaving everything in place; the operations below change a few fields. -/
theorem familyFrame_refl : FamilyFrame f s s :=
  ⟨fun _ => ⟨rfl, rfl⟩, fun _ => rfl, fun _ => rfl, fun _ => rfl, fun _ _ _ => rfl,
    fun _ _ _ => ⟨rfl, rfl⟩, rfl, rfl, rfl⟩

/-! The ends that every family may have -/

/-- A trap changes COP0 and the branch state, but marks the step trapped. -/
theorem familyFrame_raise (e : Exception) : Leads (raise e s) (FamilyFrame f s) :=
  leads_next { familyFrame_refl f s with cop0 := nofun, branch := nofun }

theorem familyFrame_writeBack (r : RegIdx) (v : Word) :
    Leads (writeBack r v s) (FamilyFrame f s) := leads_next { familyFrame_refl f s with }

theorem familyFrame_writeBackSigned (r : RegIdx) (x : Int) :
    Leads (writeBackSigned r x s) (FamilyFrame f s) :=
  leads_ite (familyFrame_raise f s _) (familyFrame_writeBack f s r _)

theorem familyFrame_delayedWrite (r : RegIdx) (v : Word) :
    Leads (.next (s.delayedWrite r v).advance) (FamilyFrame f s) :=
  leads_next { familyFrame_refl f s with }

/-- The GTE's usability is decided before its body runs. -/
theorem familyFrame_whenGteUsable {body : State → Result}
    (h : s.gteUsable = true → Leads (body s) (FamilyFrame f s)) :
    Leads (whenGteUsable body s) (FamilyFrame f s) := by
  unfold whenGteUsable
  split
  · exact h ‹_›
  · exact familyFrame_raise f s _

theorem familyFrame_whenCop0Usable {body : State → Result}
    (h : Leads (body s) (FamilyFrame f s)) : Leads (whenCop0Usable body s) (FamilyFrame f s) :=
  leads_ite h (familyFrame_raise f s _)

end

section
variable (s : State)

/-! The ends of one family -/

theorem familyFrame_writeHiLo (hi lo : Word) :
    Leads (writeHiLo hi lo s) (FamilyFrame .mulDiv s) :=
  leads_next { familyFrame_refl .mulDiv s with hiLo := nofun }

theorem familyFrame_link (rd : Option RegIdx) : FamilyFrame .control s (link rd s) := by
  cases rd with
  | none => exact familyFrame_refl _ s
  | some r => exact { familyFrame_refl .control s with }

theorem familyFrame_transfer (c : Bool) (a : Word) (rd : Option RegIdx) :
    Leads (transfer c a rd s) (FamilyFrame .control s) := by
  have hlink := familyFrame_link s rd
  obtain ⟨-, -, h⟩ | ⟨-, -, h⟩ | ⟨-, h⟩ := transfer_cases c a rd s <;> rw [h]
  · exact leads_fault _ _
  · exact leads_next { hlink with branch := nofun }
  · exact leads_next { hlink with }

theorem familyFrame_finishLoad (r : RegIdx) (c : BusCall) (v : Word) :
    Leads (finishLoad r c v s) (FamilyFrame .load s) :=
  leads_next { familyFrame_refl .load s with bus := nofun }

/-- A store of either family may change memory and the bus calls. -/
theorem familyFrame_store {f : Family} (hf : f = .store ∨ f = .gteStore) (m : Memory)
    (b : List BusCall) :
    Leads (.next { s with mem := m, busCalls := b }.advance) (FamilyFrame f s) := by
  obtain rfl | rfl := hf
  · exact leads_next { familyFrame_refl .store s with memory := nofun, bus := nofun }
  · exact leads_next { familyFrame_refl .gteStore s with memory := nofun, bus := nofun }

theorem familyFrame_execMfc0 (rt rd : RegIdx) :
    Leads (execMfc0 rt rd s) (FamilyFrame .cop0 s) := by
  apply familyFrame_whenCop0Usable
  cases s.cop0.read rd with
  | none => exact leads_fault _ _
  | some v => exact familyFrame_delayedWrite .cop0 s rt v

theorem familyFrame_execMtc0 (rt rd : RegIdx) :
    Leads (execMtc0 rt rd s) (FamilyFrame .cop0 s) := by
  apply familyFrame_whenCop0Usable
  cases s.cop0.write rd (s.readReg rt) with
  | none => exact leads_fault _ _
  | some c => exact leads_next { familyFrame_refl .cop0 s with cop0 := nofun }

theorem familyFrame_execRfe : Leads (execRfe s) (FamilyFrame .cop0 s) :=
  familyFrame_whenCop0Usable .cop0 s (leads_next { familyFrame_refl .cop0 s with cop0 := nofun })

/-- A port read, moved to a general register. -/
theorem familyFrame_moveFromGte (r : RegIdx) (n : BitVec 6) :
    Leads (whenGteUsable (fun s => .next (s.delayedWrite r (s.gte.portRead n)).advance) s)
      (FamilyFrame .gteMove s) :=
  familyFrame_whenGteUsable .gteMove s fun _ => familyFrame_delayedWrite .gteMove s r _

/-- A general register, moved to a port. -/
theorem familyFrame_moveToGte (r : RegIdx) (n : BitVec 6) :
    Leads (whenGteUsable (fun s => .next (s.writeGte n (s.readReg r)).advance) s)
      (FamilyFrame .gteMove s) :=
  familyFrame_whenGteUsable .gteMove s fun hu =>
    leads_next ((familyFrame_refl .gteMove s).setGte rfl hu _).advance

theorem familyFrame_execLwc2 (rs rt : RegIdx) (imm : BitVec 16) :
    Leads (execLwc2 rs rt imm s) (FamilyFrame .gteLoad s) := by
  apply familyFrame_whenGteUsable
  intro hu
  have hread (c : BusCall) : FamilyFrame .gteLoad s (s.noteBus c) :=
    { familyFrame_refl .gteLoad s with bus := nofun }
  exact leads_ite (familyFrame_raise _ s _) (leads_next ((hread _).setGte rfl hu _).advance)

theorem familyFrame_execSwc2 (rs rt : RegIdx) (imm : BitVec 16) :
    Leads (execSwc2 rs rt imm s) (FamilyFrame .gteStore s) := by
  apply familyFrame_whenGteUsable
  intro _
  exact leads_ite (familyFrame_raise _ s _) (familyFrame_store s (.inr rfl) _ _)

theorem familyFrame_gteCommand (f : Gte → Gte) :
    Leads (gteCommand f s) (FamilyFrame .gteCommand s) := by
  obtain ⟨hu, h⟩ | ⟨-, h⟩ := gteCommand_cases f s <;> rw [h]
  · exact leads_next ((familyFrame_refl .gteCommand s).setGte rfl hu (f s.gte.clearFlag)).advance
  · exact familyFrame_raise _ s _

theorem familyFrame_command {i : Instr} (h : i.family = .gteCommand) :
    Leads (exec i s) (FamilyFrame i.family s) := by
  obtain ⟨f, -, hexec⟩ := exec_gteCommand i h
  rw [hexec, h]
  exact familyFrame_gteCommand s f

/-- Every instruction that completes keeps the frame of its family. -/
theorem familyFrame_exec (i : Instr) : Leads (exec i s) (FamilyFrame i.family s) := by
  cases i with
  | sll | srl | sra | sllv | srlv | srav | addu | subu | and | or | xor | nor | slt | sltu | addiu
  | slti | sltiu | andi | ori | xori | lui | mfhi | mflo => exact familyFrame_writeBack _ s _ _
  | add | sub | addi => exact familyFrame_writeBackSigned _ s _ _
  | mult | multu | div | divu | mthi | mtlo => exact familyFrame_writeHiLo s _ _
  | jr | jalr | j | jal => exact familyFrame_transfer s true _ _
  | bltz | bgez | bltzal | bgezal | beq | bne | blez | bgtz =>
    exact familyFrame_transfer s _ _ _
  | lb | lbu | lwl | lwr => exact familyFrame_finishLoad s _ _ _
  | lh | lhu | lw => exact leads_ite (familyFrame_raise _ s _) (familyFrame_finishLoad s _ _ _)
  | sb | swl | swr => exact familyFrame_store s (.inl rfl) _ _
  | sh | sw =>
    exact leads_ite (familyFrame_raise _ s _) (familyFrame_store s (.inl rfl) _ _)
  | syscall | brk | cop1 | cop3 | lwc0 | lwc1 | lwc3 | swc0 | swc1 | swc3 | reserved =>
    exact familyFrame_raise _ s _
  | mfc0 => exact familyFrame_execMfc0 s _ _
  | mtc0 => exact familyFrame_execMtc0 s _ _
  | rfe => exact familyFrame_execRfe s
  | cop0Reserved => exact familyFrame_whenCop0Usable _ s (familyFrame_raise _ s _)
  | mfc2 | cfc2 => exact familyFrame_moveFromGte s _ _
  | mtc2 | ctc2 => exact familyFrame_moveToGte s _ _
  | lwc2 => exact familyFrame_execLwc2 s _ _ _
  | swc2 => exact familyFrame_execSwc2 s _ _ _
  | cop2Reserved => exact familyFrame_whenGteUsable _ s fun _ => familyFrame_raise _ s _
  | gteReserved => exact leads_ite (familyFrame_raise _ s _) (familyFrame_raise _ s _)
  | _ => exact familyFrame_command s (by rfl)

end

/-- Settles O19: the frame of the family, clause by clause. -/
theorem onlyTheirFamiliesChange : Obligations.OnlyTheirFamiliesChange := by
  unfold Obligations.OnlyTheirFamiliesChange
  intro i s t h
  have frame := familyFrame_exec s i t h
  exact ⟨frame.hiLo, frame.gte, frame.memory, frame.bus, frame.cop0, frame.branch, frame.cycles,
    frame.fatal, frame.irqLevels⟩

end Sys2Proof.Machine
end

section
/-! ### The decoder, map by map -/

namespace Sys2Proof

/-- Bit 25 is the top bit of `rs` (R119, R120). -/
theorem isCoprocessorOp_eq_rsOf_getLsbD (w : Word) : isCoprocessorOp w = (rsOf w).getLsbD 4 := by
  simp [isCoprocessorOp, rsOf]

section
variable {w : Word}

/-! The primary opcodes that lead to a further map (R116, R120) -/

theorem decode_special (h : opcodeOf w = 0x00) : decode w = decodeSpecial w := by
  simp [decode, h]

theorem decode_regimm (h : opcodeOf w = 0x01) : decode w = decodeRegimm w := by
  simp [decode, h]

theorem decode_cop0 (h : opcodeOf w = 0x10) : decode w = decodeCop0 w := by
  simp [decode, h]

theorem decode_cop2 (h : opcodeOf w = 0x12) : decode w = decodeCop2 w := by
  simp [decode, h]

theorem decode_gte (h : opcodeOf w = 0x12) (hop : isCoprocessorOp w = true) :
    decode w = decodeGte w := by
  rw [decode_cop2 h, decodeCop2, if_pos hop]

/-! What each map does with the words it does not list -/

theorem decode_reservedOpcode (h : opcodeOf w ∈ reservedOpcodes) : decode w = .reserved w := by
  unfold decode
  split <;> simp_all [reservedOpcodes]

theorem decodeSpecial_reserved (h : functorOf w ∈ reservedFunctors) :
    decodeSpecial w = .reserved w := by
  unfold decodeSpecial
  split <;> simp_all [reservedFunctors]

theorem decodeRegimm_reserved (h : rtOf w ∉ regimmSelectors) : decodeRegimm w = .reserved w := by
  unfold decodeRegimm
  split <;> simp_all [regimmSelectors]

theorem decodeCop0_operation (hop : isCoprocessorOp w = true) (h : functorOf w ≠ 0x10) :
    decodeCop0 w = .cop0Reserved (rsOf w) (functorOf w) := by
  rw [decodeCop0, if_pos hop]
  split <;> simp_all

theorem decodeCop0_move (hop : isCoprocessorOp w = false) (h : rsOf w ∉ cop0Moves) :
    decodeCop0 w = .cop0Reserved (rsOf w) (functorOf w) := by
  rw [decodeCop0, if_neg (by simp [hop])]
  split <;> simp_all [cop0Moves]

theorem decodeCop2_move (hop : isCoprocessorOp w = false) (h : rsOf w ∉ cop2Moves) :
    decodeCop2 w = .cop2Reserved (rsOf w) := by
  rw [decodeCop2, if_neg (by simp [hop])]
  split <;> simp_all [cop2Moves]

theorem decodeGte_reserved (h : functorOf w ∉ gteCommands) :
    decodeGte w = .gteReserved (functorOf w) := by
  unfold decodeGte
  split <;> simp_all [gteCommands]

/-- The words of the `RESERVED` row are kept whole (R130). -/
theorem decode_of_isReservedWord (h : isReservedWord w = true) : decode w = .reserved w := by
  simp only [isReservedWord, Bool.or_eq_true, Bool.and_eq_true, beq_iff_eq, Bool.not_eq_true',
    List.contains_eq_mem, decide_eq_true_eq, decide_eq_false_iff_not] at h
  obtain (h | ⟨hop, h⟩) | ⟨hop, h⟩ := h
  · exact decode_reservedOpcode h
  · exact (decode_special hop).trans (decodeSpecial_reserved h)
  · exact (decode_regimm hop).trans (decodeRegimm_reserved h)

end

/-! The encoded words of each map; the opcodes stand as `simp` writes them -/

@[simp] theorem decode_rWord (rs rt rd sa : BitVec 5) (functor : BitVec 6) :
    decode (rWord rs rt rd sa functor) = decodeSpecial (rWord rs rt rd sa functor) :=
  decode_special (opcodeOf_rWord ..)

@[simp] theorem decode_regimmWord (rs rt : BitVec 5) (imm : BitVec 16) :
    decode (iWord 1#6 rs rt imm) = decodeRegimm (iWord 1#6 rs rt imm) :=
  decode_regimm (opcodeOf_iWord ..)

@[simp] theorem decode_cop0Move (sub rt rd : BitVec 5) :
    decode (crWord 16#6 sub rt rd) = decodeCop0 (crWord 16#6 sub rt rd) :=
  decode_cop0 (opcodeOf_crWord ..)

@[simp] theorem decode_cop0Word (rs : BitVec 5) (functor : BitVec 6) :
    decode (cop0Word rs functor) = decodeCop0 (cop0Word rs functor) :=
  decode_cop0 (opcodeOf_cop0Word ..)

@[simp] theorem decode_cop2Move (sub rt rd : BitVec 5) :
    decode (crWord 18#6 sub rt rd) = decodeCop2 (crWord 18#6 sub rt rd) :=
  decode_cop2 (opcodeOf_crWord ..)

@[simp] theorem decode_gteWord (sf lm : Bool) (mx vx tx : BitVec 2) (command : BitVec 6) :
    decode (gteWord sf mx vx tx lm command) = decodeGte (gteWord sf mx vx tx lm command) :=
  decode_gte (opcodeOf_gteWord ..) (isCoprocessorOp_gteWord ..)

@[simp] theorem decodeMatrix_encodeMatrix (m : MatrixSel) : decodeMatrix (encodeMatrix m) = m := by
  cases m <;> rfl

@[simp] theorem decodeVector_encodeVector (v : VectorSel) : decodeVector (encodeVector v) = v := by
  cases v <;> rfl

@[simp] theorem decodeTranslation_encodeTranslation (t : TranslationSel) :
    decodeTranslation (encodeTranslation t) = t := by
  cases t <;> rfl

theorem encodeMatrix_decodeMatrix : ∀ v, encodeMatrix (decodeMatrix v) = v := by decide

theorem encodeVector_decodeVector : ∀ v, encodeVector (decodeVector v) = v := by decide

theorem encodeTranslation_decodeTranslation :
    ∀ v, encodeTranslation (decodeTranslation v) = v := by decide

/-! ### Decoding what was encoded -/

/-- A reserved sub-operation of COP0, on either side of bit 25 (R119). -/
theorem decode_encode_cop0Reserved {rs : BitVec 5} {functor : BitVec 6}
    (h : isCop0Reserved rs functor = true) :
    decode (cop0Word rs functor) = .cop0Reserved rs functor := by
  have hop := isCoprocessorOp_cop0Word rs functor
  rw [decode_cop0Word]
  cases hrs : rs.getLsbD 4
  · rw [decodeCop0_move] <;> simp_all [isCop0Reserved]
  · rw [decodeCop0_operation] <;> simp_all [isCop0Reserved]

/-- A reserved register move of COP2 (R120). -/
theorem decode_encode_cop2Reserved {rs : BitVec 5} (h : isCop2Reserved rs = true) :
    decode (crWord 18#6 rs 0 0) = .cop2Reserved rs := by
  have hop := isCoprocessorOp_crWord 0x12 rs 0 0
  rw [decode_cop2Move, decodeCop2_move] <;> simp_all [isCop2Reserved]

/-- A reserved command number of the GTE (R133). -/
theorem decode_encode_gteReserved {c : BitVec 6} (h : (!gteCommands.contains c) = true) :
    decode (gteSfLmWord false false c) = .gteReserved c := by
  rw [gteSfLmWord, decode_gteWord, decodeGte_reserved] <;> simp_all

/-- Settles O1: each instruction by the map its encoding leads to, where the field laws of the format
give its operands back; a fall-through row by what its well-formedness keeps out of the map. -/
theorem decodeEncode : Obligations.DecodeEncode := by
  unfold Obligations.DecodeEncode
  intro i hi
  cases i with
  | sll | srl | sra | sllv | srlv | srav | jr | jalr | syscall | brk | mfhi | mthi | mflo | mtlo
  | mult | multu | div | divu | add | addu | sub | subu | and | or | xor | nor | slt | sltu =>
    simp [encode, decodeSpecial]
  | bltz | bgez | bltzal | bgezal => simp [encode, decodeRegimm]
  | j | jal | beq | bne | blez | bgtz | addi | addiu | slti | sltiu | andi | ori | xori | lui
  | cop1 | cop3 | lb | lh | lwl | lw | lbu | lhu | lwr | sb | sh | swl | sw | swr
  | lwc0 | lwc1 | lwc2 | lwc3 | swc0 | swc1 | swc2 | swc3 => simp [encode, decode]
  | mfc0 | mtc0 | rfe => simp [encode, decodeCop0]
  | mfc2 | cfc2 | mtc2 | ctc2 => simp [encode, decodeCop2]
  | rtps | nclip | op | dpcs | intpl | mvmva | ncds | cdp | ncdt | nccs | cc | ncs | nct | sqr
  | dcpl | dpct | avsz3 | avsz4 | rtpt | gpf | gpl | ncct =>
    simp [encode, gteSfLmWord, decodeGte]
  | cop0Reserved => exact decode_encode_cop0Reserved hi
  | cop2Reserved => exact decode_encode_cop2Reserved hi
  | gteReserved => exact decode_encode_gteReserved hi
  | reserved => exact decode_of_isReservedWord hi

end Sys2Proof
end

section
/-! ### Every word is the word of a row -/

namespace Sys2Proof

/-- The primary opcodes R116 gives a row or a further map. -/
def definedOpcodes : List (BitVec 6) :=
  [0x00, 0x01, 0x02, 0x03, 0x04, 0x05, 0x06, 0x07, 0x08, 0x09, 0x0A, 0x0B, 0x0C, 0x0D, 0x0E, 0x0F,
   0x10, 0x11, 0x12, 0x13, 0x20, 0x21, 0x22, 0x23, 0x24, 0x25, 0x26, 0x28, 0x29, 0x2A, 0x2B, 0x2E,
   0x30, 0x31, 0x32, 0x33, 0x38, 0x39, 0x3A, 0x3B]

/-- The functors R117 gives a row under opcode 0. -/
def definedFunctors : List (BitVec 6) :=
  [0x00, 0x02, 0x03, 0x04, 0x06, 0x07, 0x08, 0x09, 0x0C, 0x0D, 0x10, 0x11, 0x12, 0x13, 0x18, 0x19,
   0x1A, 0x1B, 0x20, 0x21, 0x22, 0x23, 0x24, 0x25, 0x26, 0x27, 0x2A, 0x2B]

theorem mem_reservedOpcodes_of_not_defined :
    ∀ op, op ∉ definedOpcodes → op ∈ reservedOpcodes := by decide

theorem mem_reservedFunctors_of_not_defined :
    ∀ f, f ∉ definedFunctors → f ∈ reservedFunctors := by decide

section
variable {w : Word}

theorem decodeSpecial_wellFormed (hop : opcodeOf w = 0x00) : (decodeSpecial w).WellFormed := by
  unfold decodeSpecial
  split
  case h_29 =>
    have hf : functorOf w ∈ reservedFunctors :=
      mem_reservedFunctors_of_not_defined _ (by simp_all [definedFunctors])
    change isReservedWord w = true
    simp [isReservedWord, hop, hf]
  all_goals rfl

theorem decodeRegimm_wellFormed (hop : opcodeOf w = 0x01) : (decodeRegimm w).WellFormed := by
  unfold decodeRegimm
  split
  case h_5 =>
    change isReservedWord w = true
    simp_all [isReservedWord, regimmSelectors]
  all_goals rfl

theorem decodeCop0_wellFormed (w : Word) : (decodeCop0 w).WellFormed := by
  have hop := isCoprocessorOp_eq_rsOf_getLsbD w
  unfold decodeCop0
  split
  · split
    case h_2 =>
      change isCop0Reserved (rsOf w) (functorOf w) = true
      simp_all [isCop0Reserved]
    all_goals rfl
  · split
    case h_3 =>
      change isCop0Reserved (rsOf w) (functorOf w) = true
      simp_all [isCop0Reserved, cop0Moves]
    all_goals rfl

theorem decodeGte_wellFormed (w : Word) : (decodeGte w).WellFormed := by
  unfold decodeGte
  split
  case h_23 =>
    change (!gteCommands.contains (functorOf w)) = true
    simp_all [gteCommands]
  all_goals rfl

theorem decodeCop2_wellFormed (w : Word) : (decodeCop2 w).WellFormed := by
  have hop := isCoprocessorOp_eq_rsOf_getLsbD w
  unfold decodeCop2
  split
  · exact decodeGte_wellFormed w
  · split
    case h_5 =>
      change isCop2Reserved (rsOf w) = true
      simp_all [isCop2Reserved, cop2Moves]
    all_goals rfl

/-- Every word decodes to an instruction of the table. -/
theorem decode_wellFormed (w : Word) : (decode w).WellFormed := by
  unfold decode
  split
  case h_1 hop => exact decodeSpecial_wellFormed hop
  case h_2 hop => exact decodeRegimm_wellFormed hop
  case h_17 => exact decodeCop0_wellFormed w
  case h_19 => exact decodeCop2_wellFormed w
  case h_41 =>
    have hop : opcodeOf w ∈ reservedOpcodes :=
      mem_reservedOpcodes_of_not_defined _ (by simp_all [definedOpcodes])
    change isReservedWord w = true
    simp [isReservedWord, hop]
  all_goals rfl

end

/-! The fields of a word rebuild it, in the layouts of R113 -/

theorem rWord_fields (w : Word) :
    place 26 (opcodeOf w) ||| rWord (rsOf w) (rtOf w) (rdOf w) (saOf w) (functorOf w) = w := by
  ext i hi
  simp [place, rWord, opcodeOf, rsOf, rtOf, rdOf, saOf, functorOf]
  interval_cases i <;> simp

theorem iWord_fields (w : Word) : iWord (opcodeOf w) (rsOf w) (rtOf w) (immOf w) = w := by
  ext i hi
  simp [place, iWord, opcodeOf, rsOf, rtOf, immOf]
  interval_cases i <;> simp

theorem jWord_fields (w : Word) : jWord (opcodeOf w) (targetOf w) = w := by
  ext i hi
  simp [place, jWord, opcodeOf, targetOf]
  interval_cases i <;> simp

/-- Settles O2: each layout bit by bit, and each map row by row. -/
theorem fieldsRebuildWord : Obligations.FieldsRebuildWord := by
  unfold Obligations.FieldsRebuildWord
  intro w
  exact ⟨rWord_fields w, iWord_fields w, jWord_fields w, decode_wellFormed w⟩

end Sys2Proof
end

section
/-! ### Reserved encodings trap -/

namespace Sys2Proof.Machine

/-- What an instruction that only raises an exception does. -/
theorem traps_of_exec {i : Instr} {s : State} {e : Exception} (h : exec i s = raise e s) :
    Traps i s e.code e.coprocessor e.badAddress? := by
  unfold Traps Runs
  rw [h]
  exact raise_traps e s

theorem traps_reserved (w : Word) (s : State) : Traps (.reserved w) s 10 0 none :=
  traps_of_exec (e := .reservedInstruction) rfl

theorem traps_cop0Reserved (rs : BitVec 5) (f : BitVec 6) {s : State} (hs : s.cop0Usable = true) :
    Traps (.cop0Reserved rs f) s 10 0 none :=
  traps_of_exec (e := .reservedInstruction) (if_pos hs)

theorem traps_cop2Reserved (rs : BitVec 5) {s : State} (hs : s.gteUsable = true) :
    Traps (.cop2Reserved rs) s 10 0 none :=
  traps_of_exec (e := .reservedInstruction) (if_pos hs)

theorem traps_gteReserved (c : BitVec 6) {s : State} (hs : s.gteUsable = true) :
    Traps (.gteReserved c) s 10 0 none :=
  traps_of_exec (e := .reservedInstruction) (if_pos hs)

/-- Settles O4: each reserved word by the map it falls through. -/
theorem reservedEncodingsTrap : Obligations.ReservedEncodingsTrap := by
  have hword : ∀ w s, decode w = .reserved w →
      decode w = .reserved w ∧ Traps (decode w) s 10 0 none :=
    fun w s h => ⟨h, h ▸ traps_reserved w s⟩
  refine ⟨?opcode, ?functor, ?regimm, ?cop0Move, ?cop0Operation, ?cop2Move, ?gteCommand,
    traps_reserved, fun rs f _ => traps_cop0Reserved rs f, fun rs _ => traps_cop2Reserved rs,
    fun c _ => traps_gteReserved c⟩
  case opcode => exact fun w s h => hword w s (decode_reservedOpcode h)
  case functor =>
    exact fun w s hop h => hword w s ((decode_special hop).trans (decodeSpecial_reserved h))
  case regimm =>
    exact fun w s hop h => hword w s ((decode_regimm hop).trans (decodeRegimm_reserved h))
  case cop0Move =>
    intro w s hop hbit h hs
    rw [decode_cop0 hop, decodeCop0_move hbit h]
    exact traps_cop0Reserved _ _ hs
  case cop0Operation =>
    intro w s hop hbit h hs
    rw [decode_cop0 hop, decodeCop0_operation hbit h]
    exact traps_cop0Reserved _ _ hs
  case cop2Move =>
    intro w s hop hbit h hs
    rw [decode_cop2 hop, decodeCop2_move hbit h]
    exact traps_cop2Reserved _ hs
  case gteCommand =>
    intro w s hop hbit h hs
    rw [decode_gte hop hbit, decodeGte_reserved h]
    exact traps_gteReserved _ hs

end Sys2Proof.Machine
end

section
/-! ### The rows of the GTE map, and the words of the spec -/

namespace Sys2Proof.Machine

/-- A row of the GTE map, from what `decodeGte` does with its number. -/
theorem commandRow_of_decodeGte {c : BitVec 6} {i : Bool → Bool → Instr}
    (h : ∀ w, functorOf w = c → decodeGte w = i (sfOf w) (lmOf w)) : CommandRow c i :=
  fun w hop hbit hc => (decode_gte hop hbit).trans (h w hc)

theorem decodeGte_mvmva {w : Word} (h : functorOf w = 0x12) :
    decodeGte w = .mvmva (sfOf w) (decodeMatrix (mxOf w)) (decodeVector (vxOf w))
      (decodeTranslation (txOf w)) (lmOf w) := by
  simp [decodeGte, h]

/-- Settles O5: each number by its row of the GTE map. -/
theorem gteCommandNumbers : Obligations.GteCommandNumbers := by
  unfold Obligations.GteCommandNumbers
  iterate 21 refine ⟨commandRow_of_decodeGte fun w h => by simp [decodeGte, h], ?_⟩
  refine ⟨?mvmva, ?reserved, by decide, rfl⟩
  case mvmva =>
    intro w hop hbit h
    exact ⟨_, _, _, (decode_gte hop hbit).trans (decodeGte_mvmva h), encodeMatrix_decodeMatrix _,
      encodeVector_decodeVector _, encodeTranslation_decodeTranslation _⟩
  case reserved =>
    exact fun w hop hbit h => (decode_gte hop hbit).trans (decodeGte_reserved h)

/-- Settles O3: closed words, by evaluation of the decoder. -/
theorem specWordsDecode : Obligations.SpecWordsDecode := by
  unfold Obligations.SpecWordsDecode
  decide

end Sys2Proof.Machine
end

section
/-! ### Everything an instruction can answer -/

namespace Sys2Proof.Machine

/-- MFC0 or MTC0 with a number that names no register of COP0 (R46, R306). -/
def NamesUnmappedCop0 (i : Instr) : Prop :=
  ∃ rt rd, (i = .mfc0 rt rd ∨ i = .mtc0 rt rd) ∧
    rd ∉ ([3, 5, 6, 7, 8, 9, 11, 12, 13, 14, 15] : List RegIdx)

/-- What an instruction can answer (R145 to R165): it traps, writes one register at once or through the
queue, leaves registers, queue and branch state alone, records a jump with or without a link, or stops. -/
inductive Answer (i : Instr) (s : State) : Result → Prop
  | trap (e : Exception) : Answer i s (.next (s.raised e))
  | write (r : RegIdx) (v : Word) (hr : i.writesNow = some r) :
      Answer i s (.next (s.writeReg r v).advance)
  | load (r : RegIdx) (v : Word) (bus : List BusCall) (hr : i.writesLater = some r)
      (hbus : ∃ calls, bus = s.busCalls ++ calls) :
      Answer i s (.next { s.delayedWrite r v with busCalls := bus }.advance)
  | keep (hi lo : Word) (c : Cop0) (srWritten : Bool) (g : Gte) (m : Memory) (bus : List BusCall)
      (hbus : ∃ calls, bus = s.busCalls ++ calls) :
      Answer i s (.next { s with
        hi := hi, lo := lo, cop0 := c, srWritten := srWritten, gte := g, mem := m,
        busCalls := bus }.advance)
  | jump (a : Word) (hs : s.bdPending = false) : Answer i s (.next (s.setJump a).advance)
  | jumpLink (r : RegIdx) (v a : Word) (hr : i.writesNow = some r) (hs : s.bdPending = false) :
      Answer i s (.next ((s.writeReg r v).setJump a).advance)
  | unmapped (hi : NamesUnmappedCop0 i) : Answer i s (.fault .unmappedCop0Register)
  | delaySlot (hi : i.family = .control) (hs : s.bdPending = true) :
      Answer i s (.fault .jumpInDelaySlot)

/-- The COP0 numbers that have a register read one (R30). -/
theorem Cop0.isSome_read (c : Cop0) :
    ∀ n ∈ ([3, 5, 6, 7, 8, 9, 11, 12, 13, 14, 15] : List RegIdx), (c.read n).isSome := by
  simp [Cop0.read]

/-- The COP0 numbers that have a register take a write, if only to drop it (R305). -/
theorem Cop0.isSome_write (c : Cop0) (v : Word) :
    ∀ n ∈ ([3, 5, 6, 7, 8, 9, 11, 12, 13, 14, 15] : List RegIdx), (c.write n v).isSome := by
  simp [Cop0.write]

section
variable {i : Instr} {s : State}

theorem busCalls_eq_append : ∃ calls, s.busCalls = s.busCalls ++ calls :=
  ⟨[], (List.append_nil _).symm⟩

theorem answer_ite {c : Prop} [Decidable c] {a b : Result} (ha : Answer i s a) (hb : Answer i s b) :
    Answer i s (if c then a else b) := by
  split
  · exact ha
  · exact hb

/-- An instruction that only advances. -/
theorem answer_advance : Answer i s (.next s.advance) :=
  .keep _ _ _ _ _ _ _ busCalls_eq_append

theorem answer_writeBackSigned {r : RegIdx} (hr : i.writesNow = some r) (x : Int) :
    Answer i s (writeBackSigned r x s) := answer_ite (.trap _) (.write r _ hr)

theorem answer_finishLoad {r : RegIdx} (hr : i.writesLater = some r) (c : BusCall) (v : Word) :
    Answer i s (finishLoad r c v s) := .load r v _ hr ⟨_, rfl⟩

theorem answer_delayedWrite {r : RegIdx} (hr : i.writesLater = some r) (v : Word) :
    Answer i s (.next (s.delayedWrite r v).advance) := .load r v _ hr busCalls_eq_append

/-- A store or a coprocessor load: one bus call, and what it writes. -/
theorem answer_busCall (c : BusCall) (g : Gte) (m : Memory) :
    Answer i s (.next { s with gte := g, mem := m, busCalls := s.busCalls ++ [c] }.advance) :=
  .keep _ _ _ _ _ _ _ ⟨_, rfl⟩

theorem answer_storeMerged (merge : BitVec 2 → Word → Word → Word) (a v : Word) :
    Answer i s (storeMerged merge a v s) :=
  .keep _ _ _ _ _ _ _ ⟨_, List.append_assoc ..⟩

theorem answer_transfer {rd : Option RegIdx} (hi : i.family = .control) (hr : i.writesNow = rd)
    (c : Bool) (a : Word) : Answer i s (transfer c a rd s) := by
  obtain ⟨-, hs, h⟩ | ⟨-, hs, h⟩ | ⟨-, h⟩ := transfer_cases c a rd s <;> rw [h]
  · exact .delaySlot hi hs
  · cases rd with
    | none => exact .jump a hs
    | some r => exact .jumpLink r _ a hr hs
  · cases rd with
    | none => exact answer_advance
    | some r => exact .write r _ hr

/-- The GTE's usability is decided before its body runs. -/
theorem answer_whenGteUsable {body : State → Result} (h : Answer i s (body s)) :
    Answer i s (whenGteUsable body s) := answer_ite h (.trap _)

theorem answer_whenCop0Usable {body : State → Result} (h : Answer i s (body s)) :
    Answer i s (whenCop0Usable body s) := answer_ite h (.trap _)

theorem answer_execMfc0 (rt rd : RegIdx) : Answer (.mfc0 rt rd) s (execMfc0 rt rd s) := by
  apply answer_whenCop0Usable
  cases h : s.cop0.read rd with
  | none =>
    refine .unmapped ⟨rt, rd, .inl rfl, fun hrd => ?_⟩
    simpa [h] using s.cop0.isSome_read rd hrd
  | some v => exact answer_delayedWrite rfl v

theorem answer_execMtc0 (rt rd : RegIdx) : Answer (.mtc0 rt rd) s (execMtc0 rt rd s) := by
  apply answer_whenCop0Usable
  cases h : s.cop0.write rd (s.readReg rt) with
  | none =>
    refine .unmapped ⟨rt, rd, .inr rfl, fun hrd => ?_⟩
    simpa [h] using s.cop0.isSome_write (s.readReg rt) rd hrd
  | some c => exact .keep _ _ _ _ _ _ _ busCalls_eq_append

theorem answer_command (h : i.family = .gteCommand) : Answer i s (exec i s) := by
  obtain ⟨f, -, hexec⟩ := exec_gteCommand i h
  rw [hexec]
  exact answer_ite (.keep _ _ _ _ _ _ _ busCalls_eq_append) (.trap _)

end

/-- Every instruction answers one of the ways `Answer` lists. -/
theorem answer_exec (i : Instr) (s : State) : Answer i s (exec i s) := by
  cases i with
  | sll | srl | sra | sllv | srlv | srav | addu | subu | and | or | xor | nor | slt | sltu | addiu
  | slti | sltiu | andi | ori | xori | lui | mfhi | mflo => exact .write _ _ rfl
  | add | sub | addi => exact answer_writeBackSigned rfl _
  | mult | multu | div | divu | mthi | mtlo => exact .keep _ _ _ _ _ _ _ busCalls_eq_append
  | jr | jalr | j | jal => exact answer_transfer rfl rfl true _
  | bltz | bgez | bltzal | bgezal | beq | bne | blez | bgtz => exact answer_transfer rfl rfl _ _
  | lb | lbu | lwl | lwr => exact answer_finishLoad rfl _ _
  | lh | lhu | lw => exact answer_ite (.trap _) (answer_finishLoad rfl _ _)
  | sb => exact answer_busCall _ _ _
  | sh | sw => exact answer_ite (.trap _) (answer_busCall _ _ _)
  | swl | swr => exact answer_storeMerged _ _ _
  | syscall | brk | cop1 | cop3 | lwc0 | lwc1 | lwc3 | swc0 | swc1 | swc3 | reserved =>
    exact .trap _
  | mfc0 => exact answer_execMfc0 _ _
  | mtc0 => exact answer_execMtc0 _ _
  | rfe =>
    apply answer_whenCop0Usable
    exact .keep _ _ _ _ _ _ _ busCalls_eq_append
  | cop0Reserved => exact answer_whenCop0Usable (.trap _)
  | mfc2 | cfc2 =>
    apply answer_whenGteUsable
    exact answer_delayedWrite rfl _
  | mtc2 | ctc2 =>
    apply answer_whenGteUsable
    exact .keep _ _ _ _ _ _ _ busCalls_eq_append
  | lwc2 | swc2 =>
    apply answer_whenGteUsable
    exact answer_ite (.trap _) (answer_busCall _ _ _)
  | cop2Reserved => exact answer_whenGteUsable (.trap _)
  | gteReserved => exact answer_ite (.trap _) (.trap _)
  | _ => exact answer_command rfl

/-! What follows for an instruction that completes, and for one that stops -/

section
variable {i : Instr} {s u : State}

theorem answer_of_exec {r : Result} (h : exec i s = r) : Answer i s r := h ▸ answer_exec i s

/-- The bus calls of an instruction follow those made before it (R91). -/
theorem busCalls_of_exec (h : exec i s = .next u) : ∃ calls, u.busCalls = s.busCalls ++ calls := by
  cases answer_of_exec h with
  | load _ _ _ _ hbus => exact hbus
  | keep _ _ _ _ _ _ _ hbus => exact hbus
  | trap | write | jump | jumpLink => exact busCalls_eq_append

/-- An instruction that notes a write of SR completes, and leaves the branch state alone. -/
theorem completes_of_srWritten (h : exec i s = .next u) (hs : s.srWritten = false)
    (hu : u.srWritten = true) :
    u.trapped = s.trapped ∧ u.bdPending = s.bdPending ∧ u.bdTarget = s.bdTarget ∧
      u.pc = s.pc + 4 := by
  cases answer_of_exec h with
  | keep => exact ⟨rfl, rfl, rfl, rfl⟩
  | trap | write | load | jump | jumpLink => cases hs.symm.trans hu

/-- An instruction in a delay slot keeps the target recorded for it (R163, R165). -/
theorem bdTarget_of_exec (h : exec i s = .next u) (hs : s.bdPending = true) :
    u.bdTarget = s.bdTarget := by
  cases answer_of_exec h with
  | trap | write | load | keep => rfl
  | jump _ hs' => cases hs.symm.trans hs'
  | jumpLink _ _ _ _ hs' => cases hs.symm.trans hs'

/-- An instruction that marks its step trapped has dropped the branch pending (R521). -/
theorem bdPending_of_trapped (h : exec i s = .next u) (hs : s.trapped = false)
    (hu : u.trapped = true) : u.bdPending = false := by
  cases answer_of_exec h with
  | trap => rfl
  | write | load | keep | jump | jumpLink => cases hs.symm.trans hu

/-- What an instruction does to a pending load: it leaves it, or completes
and writes that register at once, or completes and queues a newer value for it (R152, R154). -/
theorem pendingLoad_of_exec {e : LoadEntry} (h : exec i s = .next u) (he : s.ldCur = some e) :
    u.ldCur = some e ∨
      u.trapped = s.trapped ∧ u.ldCur = none ∧
        (i.writesNow = some e.reg ∨
          i.writesLater = some e.reg ∧ u.regs = s.regs ∧ ∃ w, u.ldNext = some ⟨e.reg, w⟩) := by
  have hdrop (r : RegIdx) : dropLoad r s.ldCur = some e ∨ dropLoad r s.ldCur = none ∧ r = e.reg := by
    by_cases hr : e.reg = r
    · exact .inr ⟨by simp [dropLoad, he, hr], hr.symm⟩
    · exact .inl (dropLoad_eq_some.mpr ⟨he, hr⟩)
  cases answer_of_exec h with
  | trap | keep | jump => exact .inl he
  | write r _ hr => exact (hdrop r).imp_right fun ⟨hd, hr'⟩ => ⟨rfl, hd, .inl (hr' ▸ hr)⟩
  | jumpLink r _ _ hr => exact (hdrop r).imp_right fun ⟨hd, hr'⟩ => ⟨rfl, hd, .inl (hr' ▸ hr)⟩
  | load r v _ hr =>
    exact (hdrop r).imp_right fun ⟨hd, hr'⟩ => ⟨rfl, hd, .inr ⟨hr' ▸ hr, rfl, v, hr' ▸ rfl⟩⟩

/-- No instruction is refused. -/
theorem exec_ne_refused (i : Instr) (s : State) (r : Refusal) : exec i s ≠ .refused r := by
  intro h
  cases answer_of_exec h

/-- Where an instruction stops: at an unmapped COP0 number, or at a transfer in a delay slot. -/
theorem exec_fault_cases {f : Fault} (h : exec i s = .fault f) :
    f = .unmappedCop0Register ∧ NamesUnmappedCop0 i ∨
      f = .jumpInDelaySlot ∧ i.family = .control ∧ s.bdPending = true := by
  cases answer_of_exec h with
  | unmapped hi => exact .inl ⟨rfl, hi⟩
  | delaySlot hi hs => exact .inr ⟨rfl, hi, hs⟩

end

end Sys2Proof.Machine
end

section
/-! ### What a step answers, from what its instruction answers -/

namespace Sys2Proof.Machine

theorem step_of_fatal {s : State} (h : s.fatal = true) : step s = .fault .coreFatal := by
  simp [step, h]

section
variable {s : State} (hs : s.fatal = false)
include hs

theorem step_of_misaligned (h : misalignedWord s.beforeFetch.pc = true) :
    step s = .next ((s.beforeFetch.raised (.adel s.beforeFetch.pc)).endStep false) := by
  simp [step, hs, h]

section
variable (h : misalignedWord s.beforeFetch.pc = false)
include h

theorem step_of_next {u : State}
    (hu : exec (decode s.beforeFetch.fetchWord) s.beforeFetch.noteFetch = .next u) :
    step s = .next (u.endStep s.beforeFetch.bdPending) := by
  simp [step, hs, h, hu]

theorem step_of_fault {f : Fault}
    (hf : exec (decode s.beforeFetch.fetchWord) s.beforeFetch.noteFetch = .fault f) :
    step s = .fault f := by
  simp [step, hs, h, hf]

theorem step_of_refused {r : Refusal}
    (hr : exec (decode s.beforeFetch.fetchWord) s.beforeFetch.noteFetch = .refused r) :
    step s = .refused r := by
  simp [step, hs, h, hr]

end

end

/-- Everything a step can answer: the stop of the fatal state, or a step that completes, or the stop of
its instruction. -/
theorem step_cases (s : State) :
    (s.fatal = true ∧ step s = .fault .coreFatal) ∨
      s.fatal = false ∧ ((∃ t, step s = .next t) ∨
        ∃ f, step s = .fault f ∧
          exec (decode s.beforeFetch.fetchWord) s.beforeFetch.noteFetch = .fault f) := by
  cases hs : s.fatal
  · refine .inr ⟨rfl, ?_⟩
    cases h : misalignedWord s.beforeFetch.pc
    · cases he : exec (decode s.beforeFetch.fetchWord) s.beforeFetch.noteFetch with
      | next u => exact .inl ⟨_, step_of_next hs h he⟩
      | fault f => exact .inr ⟨f, step_of_fault hs h he, rfl⟩
      | refused r => exact absurd he (exec_ne_refused _ _ r)
    · exact .inl ⟨_, step_of_misaligned hs h⟩
  · exact .inl ⟨rfl, step_of_fatal hs⟩

/-- Settles O9: the four bytes are the word of the fetch, and the step answers as its instruction does. -/
theorem stepRunsDecoded : Obligations.StepRunsDecoded := by
  unfold Obligations.StepRunsDecoded
  intro s i hs h hbytes
  obtain rfl : decode s.beforeFetch.fetchWord = i := congrArg Prod.fst (Except.ok.inj hbytes)
  cases he : exec (decode s.beforeFetch.fetchWord) s.beforeFetch.noteFetch with
  | next u => exact step_of_next hs h he
  | fault f => exact step_of_fault hs h he
  | refused r => exact step_of_refused hs h he

/-- Settles O14: P7 counts, and no instruction writes the counter. -/
theorem cyclesAdvance : Obligations.CyclesAdvance := by
  unfold Obligations.CyclesAdvance
  intro s t h
  obtain ⟨-, ⟨-, rfl⟩ | ⟨-, u, hu, rfl⟩⟩ := step_next_cases h
  · simp
  · simp [(familyFrame_exec _ _ _ hu).cycles]

/-- Settles O18: where a step stops its instruction does, and a step that completes has counted. -/
theorem stepStopsOnlyWhereSaid : Obligations.StepStopsOnlyWhereSaid := by
  unfold Obligations.StepStopsOnlyWhereSaid
  intro s
  have hidle : step s ≠ .next s := by
    intro h
    have hcycles : s.cycles = s.cycles + 1 := cyclesAdvance s s h
    simp at hcycles
  obtain ⟨hs, h⟩ | ⟨hs, ⟨t, h⟩ | ⟨f, h, hf⟩⟩ := step_cases s <;> rw [h] at hidle ⊢
  · exact ⟨nofun, hidle, by simp [hs], nofun, nofun⟩
  · exact ⟨nofun, hidle, by simp [hs], nofun, nofun⟩
  · obtain ⟨rfl, hi⟩ | ⟨rfl, hi, hd⟩ := exec_fault_cases hf
    · exact ⟨nofun, hidle, by simp [hs], fun _ => hi, nofun⟩
    · exact ⟨nofun, hidle, by simp [hs], nofun, fun _ => ⟨hd, hi⟩⟩

end Sys2Proof.Machine
end

section
/-! ### A pending load through a step -/

namespace Sys2Proof.Machine

/-- P4 stores a pending load in its register. -/
theorem State.readReg_endStep_of_pending {s : State} {e : LoadEntry} (w : Bool)
    (h : s.ldCur = some e) (he : e.reg ≠ 0) : (s.endStep w).readReg e.reg = e.value := by
  have hregs : (s.endStep w).regs = putReg s.regs e.reg e.value := by
    simp [State.commitPhase, h]
  have hread := State.wroteReg_putReg e.reg e.value hregs e.reg
  rwa [if_neg he, if_pos rfl] at hread

/-- P4 to P7 keep the registers where no load is pending. -/
theorem State.readReg_endStep_of_none {s : State} (w : Bool) (h : s.ldCur = none) (r : RegIdx) :
    (s.endStep w).readReg r = s.readReg r :=
  State.readReg_congr (by simp [State.commitPhase, h]) r

/-- A step reads its registers as they were before it. -/
@[simp] theorem State.readReg_noteFetch_beforeFetch (s : State) (r : RegIdx) :
    s.beforeFetch.noteFetch.readReg r = s.readReg r := State.readReg_congr (by simp) r

/-- Settles O15: what the instruction does to the pending load, and then P4. -/
theorem pendingLoadCommits : Obligations.PendingLoadCommits := by
  unfold Obligations.PendingLoadCommits
  intro s t e h he hr
  obtain ⟨-, ⟨-, rfl⟩ | ⟨haligned, u, hu, rfl⟩⟩ := step_next_cases h
  · exact .inl (State.readReg_endStep_of_pending _ (by simp [he]) hr)
  · obtain hld | ⟨htrap, hld, hwrites⟩ := pendingLoad_of_exec hu (e := e) (by simp [he])
    · exact .inl (State.readReg_endStep_of_pending _ hld hr)
    · have hread := State.readReg_endStep_of_none s.beforeFetch.bdPending hld e.reg
      refine .inr ⟨haligned, _, u, rfl, hu, by simpa using htrap, ?_⟩
      obtain hnow | ⟨hlater, hregs, w, hw⟩ := hwrites
      · exact .inl ⟨hnow, hread⟩
      · have hkept : u.readReg e.reg = s.readReg e.reg := State.readReg_congr (by simpa using hregs) _
        exact .inr ⟨hlater, hread.trans hkept, w, by simpa using hw⟩

/-- LW of an aligned address completes as a delayed write. -/
theorem exec_lw_of_aligned {rs rt : RegIdx} {imm : BitVec 16} {s : State}
    (h : misalignedWord (effectiveAddress rs imm s) = false) :
    exec (.lw rs rt imm) s = finishLoad rt (.readWord (effectiveAddress rs imm s))
      (s.mem.readWord (effectiveAddress rs imm s)) s :=
  if_neg (by simp [h])

/-- Settles O16: the second load empties the queue of the first, so P4 stores nothing. -/
theorem cancelledLoad : Obligations.CancelledLoad := by
  unfold Obligations.CancelledLoad
  rintro s t e rs rt imm h he rfl haligned hdecode ha
  have haddr : effectiveAddress rs imm s.beforeFetch.noteFetch = effectiveAddress rs imm s := by
    simp [effectiveAddress]
  obtain ⟨-, ⟨hm, -⟩ | ⟨-, u, hu, rfl⟩⟩ := step_next_cases h
  · cases haligned.symm.trans hm
  · rw [hdecode, exec_lw_of_aligned (haddr.symm ▸ ha), haddr] at hu
    obtain rfl := Host.Outcome.next.inj hu
    refine ⟨?_, by simp⟩
    rw [State.readReg_endStep_of_none _ (by simp [dropLoad, he])]
    exact State.readReg_congr (by simp) _

end Sys2Proof.Machine
end

section
/-! ### Interrupts, and the branch a step resolves -/

namespace Sys2Proof.Machine

/-- The mask of the interrupt bits, bit by bit. -/
theorem interruptMask_bit : ∀ k < 32, (0x0000FF00#32).getLsbD k = decide (8 ≤ k ∧ k < 16) := by
  decide

/-- The test of R541 is the condition of R541. -/
theorem interruptPending_iff (s : State) : s.interruptPending = true ↔ InterruptEnabled s := by
  unfold State.interruptPending InterruptEnabled
  rw [Bool.and_eq_true, bne_iff_ne]
  refine and_congr_right fun _ => ⟨fun h => ?_, fun ⟨k, hk, hk', hsr, hcause⟩ h => ?_⟩
  · by_contra hnone
    refine h (BitVec.eq_of_getLsbD_eq fun k hk => ?_)
    by_contra hbit
    obtain ⟨hsr, hcause, hlo, hhi⟩ : s.cop0.sr.getLsbD k = true ∧ s.cop0.cause.getLsbD k = true ∧
        8 ≤ k ∧ k < 16 := by simpa [interruptMask_bit k hk] using hbit
    exact hnone ⟨k, hlo, hhi, hsr, hcause⟩
  · have hbit := congrArg (BitVec.getLsbD · k) h
    simp [hsr, hcause, interruptMask_bit k (by omega), hk, hk'] at hbit

/-- P1 and P6 trap where the condition of R541 holds. -/
theorem State.trapIfPending_of_enabled {s : State} (h : InterruptEnabled s) :
    s.trapIfPending = s.takeTrap .interrupt := if_pos ((interruptPending_iff s).mpr h)

theorem State.trapIfPending_of_not_enabled {s : State} (h : ¬InterruptEnabled s) :
    s.trapIfPending = s := if_neg (mt (interruptPending_iff s).mp h)

/-- The sample of the line, bit by bit (R540). -/
theorem State.sampleLine_cause_bit (s : State) :
    ∀ k < 32, s.sampleLine.cop0.cause.getLsbD k =
      if k = 10 then s.irqLevels.headD false else s.cop0.cause.getLsbD k := by
  intro k hk
  have hmask : ∀ (k : Nat) (_ : k < 32), irqMask[k] = decide (k = 10) := by decide
  unfold State.sampleLine State.irq
  cases s.irqLevels.headD false <;> by_cases h : k = 10 <;> simp [hmask, hk, h]

/-- Settles O11: the state between the sample and the test. -/
theorem interruptBeforeFetch : Obligations.InterruptBeforeFetch := by
  unfold Obligations.InterruptBeforeFetch
  intro s
  refine ⟨s.beginStep.sampleLine, rfl, s.beginStep.sampleLine_cause_bit, fun h => ?_,
    State.trapIfPending_of_not_enabled⟩
  change TrapEntered 0 0 none _ s.beginStep.sampleLine.trapIfPending
  rw [State.trapIfPending_of_enabled h]
  exact trapEntered_takeTrap .interrupt _ _

/-- Settles O10: no SR is written, so after the trap only P4, P5 and P7 act; and the fetch is noted before
the instruction's own calls. -/
theorem misalignedFetchTraps : Obligations.MisalignedFetchTraps := by
  unfold Obligations.MisalignedFetchTraps
  intro s hs
  constructor
  · intro h
    refine ⟨_, _, trapEntered_takeTrap (.adel s.beforeFetch.pc) s.beforeFetch true, rfl,
      step_of_misaligned hs h, rfl, ?_, fun hd => ?_⟩
    · exact (State.endStep_busCalls _ _).trans s.beforeFetch_busCalls
    · rw [State.endStep_cop0 (s.beforeFetch.raised _) _ s.beforeFetch_srWritten]
      exact if_neg (by simp [hd])
  · intro h t ht
    obtain ⟨-, ⟨hm, -⟩ | ⟨-, u, hu, rfl⟩⟩ := step_next_cases ht
    · cases h.symm.trans hm
    · obtain ⟨calls, hcalls⟩ := busCalls_of_exec hu
      exact ⟨calls, by simpa using hcalls⟩

/-- P5 after a delay slot that did not trap. -/
theorem State.resolvePhase_of_pending {s : State} (h : s.trapped = false) :
    s.resolvePhase true = { s with pc := s.bdTarget, bdPending := false } := by
  simp [State.resolvePhase, h]

/-- P5 where no branch was pending. -/
theorem State.resolvePhase_of_not_pending (s : State) : s.resolvePhase false = s := rfl

/-- P5 after a trap. -/
theorem State.resolvePhase_of_trapped {s : State} (w : Bool) (h : s.trapped = true) :
    s.resolvePhase w = s := by
  simp [State.resolvePhase, h]

/-- The condition of R541 looks at COP0 only. -/
theorem interruptEnabled_congr {s t : State} (h : t.cop0 = s.cop0) :
    InterruptEnabled t ↔ InterruptEnabled s := by
  rw [InterruptEnabled, h, InterruptEnabled]

/-- P6 where it takes no interrupt. -/
theorem State.endStep_of_not_enabled {s : State} (w : Bool)
    (h : s.srWritten = true → ¬InterruptEnabled s) :
    s.endStep w = (s.commitPhase.resolvePhase w).tick := by
  unfold State.endStep State.recheckPhase
  split
  next hw =>
    have hnot : ¬InterruptEnabled (s.commitPhase.resolvePhase w) :=
      mt (interruptEnabled_congr (by simp)).mp (h (by simpa using hw))
    rw [State.trapIfPending_of_not_enabled hnot]
  next => rfl

/-- P6 where it takes an interrupt. -/
theorem State.endStep_of_enabled {s : State} (w : Bool) (hw : s.srWritten = true)
    (h : InterruptEnabled s) :
    s.endStep w = ((s.commitPhase.resolvePhase w).takeTrap .interrupt).tick := by
  have hon : InterruptEnabled (s.commitPhase.resolvePhase w) :=
    (interruptEnabled_congr (by simp)).mpr h
  unfold State.endStep State.recheckPhase
  rw [if_pos (by simpa using hw), State.trapIfPending_of_enabled hon]

/-- Settles O12: an instruction that writes SR completes and advances, so after P5 no branch is pending
and the program counter is the next instruction's. -/
theorem statusWriteThenInterrupt : Obligations.StatusWriteThenInterrupt := by
  unfold Obligations.StatusWriteThenInterrupt
  rintro s u v hs h hu hw hon rfl
  obtain ⟨htrapped, hpending, htarget, hpc⟩ := completes_of_srWritten hu (by simp) hw
  have hresolved : (u.commitPhase.resolvePhase s.beforeFetch.bdPending).bdPending = false ∧
      (u.commitPhase.resolvePhase s.beforeFetch.bdPending).pc =
        if s.beforeFetch.bdPending then s.beforeFetch.bdTarget else s.beforeFetch.pc + 4 := by
    cases hd : s.beforeFetch.bdPending
    · simp [State.resolvePhase_of_not_pending, hpending, hpc, hd]
    · have hnot : u.commitPhase.trapped = false := by simp [htrapped]
      simp [State.resolvePhase_of_pending hnot, htarget]
  obtain ⟨hclear, hnext⟩ := hresolved
  refine ⟨hclear, _, step_of_next hs h hu, ?_⟩
  rw [State.endStep_of_enabled _ hw hon]
  refine ⟨trapEntered_takeTrap .interrupt _ _, ?_, ?_⟩
  · simp [(familyFrame_exec _ _ _ hu).cycles]
  · exact (if_neg (by simp [hclear])).trans hnext

/-- Settles O17: with no interrupt in P6 the step ends as P5 leaves it. -/
theorem branchResolves : Obligations.BranchResolves := by
  unfold Obligations.BranchResolves
  intro s u hs h hu hoff
  refine ⟨_, step_of_next hs h hu, ?_⟩
  rw [State.endStep_of_not_enabled _ hoff]
  refine ⟨fun htrapped hd => ?_, fun _ hd => ?_, fun htrapped => ?_⟩
  · have htarget : u.bdTarget = s.bdTarget := by simpa using bdTarget_of_exec hu hd
    rw [hd, State.resolvePhase_of_pending (s := u.commitPhase) htrapped]
    exact ⟨htarget, rfl⟩
  · rw [hd]
    exact ⟨rfl, rfl, rfl⟩
  · rw [State.resolvePhase_of_trapped (s := u.commitPhase) _ htrapped]
    exact ⟨rfl, bdPending_of_trapped (u := u) hu (by simp) htrapped⟩

end Sys2Proof.Machine
end

section
/-! ### Transfers in a delay slot -/

namespace Sys2Proof.Machine

/-- A transfer that is taken in a delay slot stops (R165). -/
theorem transfer_of_taken {c : Bool} {s : State} (hs : s.bdPending = true) (hc : c = true) (a : Word)
    (rd : Option RegIdx) : transfer c a rd s = .fault .jumpInDelaySlot := by
  simp [transfer, hs, hc]

theorem isNegative_iff (x : Word) : isNegative x = true ↔ x.toInt < 0 := by
  simp [isNegative, BitVec.slt_iff_toInt_lt]

theorem sle_zero_iff (x : Word) : x.sle 0#32 = true ↔ x.toInt ≤ 0 := by
  simp [BitVec.sle_iff_toInt_le]

/-- Settles O35: each transfer is taken. -/
theorem jumpInDelaySlotStops : Obligations.JumpInDelaySlotStops := by
  unfold Obligations.JumpInDelaySlotStops
  intro s hs
  have hneg {rs : RegIdx} (h : (s.readReg rs).toInt < 0) : isNegative (s.readReg rs) = true :=
    (isNegative_iff _).mpr h
  have hpos {rs : RegIdx} (h : (s.readReg rs).toInt > 0) : (!(s.readReg rs).sle 0) = true := by
    simpa [← Bool.not_eq_true, sle_zero_iff] using h
  have hnonneg {rs : RegIdx} (h : (s.readReg rs).toInt ≥ 0) : (!isNegative (s.readReg rs)) = true := by
    simpa [← Bool.not_eq_true, isNegative_iff] using h
  refine ⟨fun _ => transfer_of_taken hs rfl _ _, fun _ => transfer_of_taken hs rfl _ _,
    fun _ => transfer_of_taken hs rfl _ _, fun _ _ => transfer_of_taken hs rfl _ _, ?beq, ?bne, ?blez,
    ?bgtz, fun _ _ h => ⟨transfer_of_taken hs (hneg h) _ _, transfer_of_taken hs (hneg h) _ _⟩,
    fun _ _ h => ⟨transfer_of_taken hs (hnonneg h) _ _, transfer_of_taken hs (hnonneg h) _ _⟩⟩
  case beq => exact fun _ _ _ h => transfer_of_taken hs (beq_iff_eq.mpr h) _ _
  case bne => exact fun _ _ _ h => transfer_of_taken hs (bne_iff_ne.mpr h) _ _
  case blez => exact fun _ _ h => transfer_of_taken hs ((sle_zero_iff _).mpr h) _ _
  case bgtz => exact fun _ _ h => transfer_of_taken hs (hpos h) _ _

end Sys2Proof.Machine
end

section
/-! ### The map of opcode 0, and the end of an instruction that writes a register -/

namespace Sys2Proof.Machine

/-- A row of the map of opcode 0, from what `decodeSpecial` does with its functor. -/
theorem specialRow_of_decodeSpecial {f : BitVec 6}
    {i : RegIdx → RegIdx → RegIdx → BitVec 5 → Instr}
    (h : ∀ w, functorOf w = f → decodeSpecial w = i (rsOf w) (rtOf w) (rdOf w) (saOf w)) :
    SpecialRow f i :=
  fun w hop hf => (decode_special hop).trans (h w hf)

theorem Runs.imp {i : Instr} {s : State} {P Q : State → Prop} (h : Runs i s P)
    (hPQ : ∀ t, P t → Q t) : Runs i s Q := by
  obtain ⟨t, ht, hP⟩ := h
  exact ⟨t, ht, hPQ t hP⟩

section
variable {i : Instr} {r : RegIdx} {s : State}

/-- What an instruction does that ends in `writeBack`. -/
theorem runs_of_writeBack {v : Word} (h : exec i s = writeBack r v s) :
    Runs i s (ImmediateWrite r v s) :=
  ⟨_, h, immediateWrite_writeBack r v s⟩

/-- An instruction that ends in `writeBack` writes a word with the property of its result. -/
theorem runs_exists_of_writeBack {v : Word} {Q : Word → Prop} (h : exec i s = writeBack r v s)
    (hv : Q v) : Runs i s fun t => ∃ v : Word, ImmediateWrite r v s t ∧ Q v :=
  (runs_of_writeBack h).imp fun _ ht => ⟨v, ht, hv⟩

/-- An exact result that a word holds does not overflow (R181). -/
theorem overflows32_toInt (v : Word) : overflows32 v.toInt = false := by
  have hlt := v.toInt_lt
  have hle := v.le_toInt
  simp only [overflows32, Bool.or_eq_false_iff, decide_eq_false_iff_not]
  omega

theorem overflows32_of_outside {x : Int} (h : Outside (-0x80000000) 0x7FFFFFFF x) :
    overflows32 x = true := by
  simpa [overflows32, Outside, or_comm] using h

/-- An instruction that ends in `writeBackSigned` writes the exact result where a word holds it. -/
theorem runs_of_writeBackSigned {x : Int} {v : Word} (h : exec i s = writeBackSigned r x s)
    (hv : v.toInt = x) : Runs i s (ImmediateWrite r v s) := by
  apply runs_of_writeBack
  rw [h, ← hv, writeBackSigned, overflows32_toInt, BitVec.ofInt_toInt]
  rfl

/-- An instruction that ends in `writeBackSigned` traps where no word holds the exact result. -/
theorem traps_of_writeBackSigned {x : Int} (h : exec i s = writeBackSigned r x s)
    (hx : Outside (-0x80000000) 0x7FFFFFFF x) : Traps i s 12 0 none :=
  traps_of_exec (e := .arithmeticOverflow) (h.trans (if_pos (overflows32_of_outside hx)))

end

end Sys2Proof.Machine
end

section
/-! ### The operands of an instruction, read as numbers and bit by bit -/

namespace Sys2Proof.Machine

/-- The sign-extended immediate keeps its value (R186, R208). -/
theorem toInt_signImm (imm : BitVec 16) : (signImm imm).toInt = imm.toInt :=
  BitVec.toInt_signExtend_of_le (by decide)

/-- The sign-extended immediate read as an unsigned word (R187, R209). -/
theorem toNat_signImm (imm : BitVec 16) : ((signImm imm).toNat : Int) = imm.toInt % 2 ^ 32 := by
  change ((BitVec.ofInt 32 imm.toInt).toNat : Int) = _
  rw [BitVec.toNat_ofInt]
  exact Int.toNat_of_nonneg (Int.emod_nonneg _ (by decide))

/-- The immediate of the logic instructions is zero-extended (R192 to R194). -/
theorem getLsbD_zeroImm (imm : BitVec 16) {k : Nat} (hk : k < 32) :
    (zeroImm imm).getLsbD k = (k < 16 && imm.getLsbD k) := by
  have hlow : imm.getLsbD k = true → k < 16 := BitVec.lt_of_getLsbD
  simpa [zeroImm, hk] using hlow

/-- The immediate of LUI stands in the high half (R195). -/
theorem toNat_upperImm (imm : BitVec 16) : (upperImm imm).toNat = imm.toNat * 2 ^ 16 := by
  have hlt := imm.isLt
  rw [upperImm, BitVec.toNat_shiftLeft, BitVec.toNat_setWidth_of_le (by decide), Nat.shiftLeft_eq]
  omega

/-- The amount of a variable shift (R114). -/
theorem toNat_variableShift (rs : RegIdx) (s : State) :
    (variableShift rs s).toNat = (s.readReg rs).toNat % 32 := rfl

end Sys2Proof.Machine
end

section
/-! ### Signed add and subtract -/

namespace Sys2Proof.Machine

/-- Settles O24: each instruction ends in `writeBackSigned` of its exact result. -/
theorem signedAddSub : Obligations.SignedAddSub := by
  unfold Obligations.SignedAddSub
  iterate 2 refine ⟨specialRow_of_decodeSpecial fun w h => by simp [decodeSpecial, h], ?_⟩
  refine ⟨fun w h => by simp [decode, h], ?addFits, ?subFits, ?addiFits, ?addTraps, ?subTraps,
    ?addiTraps⟩
  case addFits => exact fun _ _ _ _ _ => runs_of_writeBackSigned rfl
  case subFits => exact fun _ _ _ _ _ => runs_of_writeBackSigned rfl
  case addiFits => exact fun _ _ _ _ _ => runs_of_writeBackSigned rfl
  case addTraps => exact fun _ _ _ _ => traps_of_writeBackSigned rfl
  case subTraps => exact fun _ _ _ _ => traps_of_writeBackSigned rfl
  case addiTraps => exact fun _ _ _ _ => traps_of_writeBackSigned rfl

end Sys2Proof.Machine
end

section
/-! ### Logic -/

namespace Sys2Proof.Machine

theorem getLsbD_nor (a b : Word) {k : Nat} (hk : k < 32) :
    (~~~(a ||| b)).getLsbD k = !(a.getLsbD k || b.getLsbD k) := by
  simp [hk]

/-- Settles O26: each instruction writes the word operation, read bit by bit. -/
theorem logicResults : Obligations.LogicResults := by
  unfold Obligations.LogicResults
  iterate 4 refine ⟨specialRow_of_decodeSpecial fun w h => by simp [decodeSpecial, h], ?_⟩
  iterate 4 refine ⟨fun w h => by simp [decode, h], ?_⟩
  refine ⟨?and, ?or, ?xor, ?nor, ?andi, ?ori, ?xori, ?lui⟩
  case and => exact fun _ _ _ _ => runs_exists_of_writeBack rfl fun _ _ => BitVec.getLsbD_and
  case or => exact fun _ _ _ _ => runs_exists_of_writeBack rfl fun _ _ => BitVec.getLsbD_or
  case xor => exact fun _ _ _ _ => runs_exists_of_writeBack rfl fun _ _ => BitVec.getLsbD_xor
  case nor => exact fun _ _ _ _ => runs_exists_of_writeBack rfl fun _ hk => getLsbD_nor _ _ hk
  case andi =>
    exact fun _ _ imm _ => runs_exists_of_writeBack rfl fun _ hk => by
      rw [BitVec.getLsbD_and, getLsbD_zeroImm imm hk]
  case ori =>
    exact fun _ _ imm _ => runs_exists_of_writeBack rfl fun _ hk => by
      rw [BitVec.getLsbD_or, getLsbD_zeroImm imm hk]
  case xori =>
    exact fun _ _ imm _ => runs_exists_of_writeBack rfl fun _ hk => by
      rw [BitVec.getLsbD_xor, getLsbD_zeroImm imm hk]
  case lui => exact fun _ imm _ => runs_exists_of_writeBack rfl (toNat_upperImm imm)

end Sys2Proof.Machine
end

section
/-! ### Shifts -/

namespace Sys2Proof.Machine

theorem toNat_shiftLeftWord (a : Word) (n : Nat) : (a <<< n).toNat = a.toNat * 2 ^ n % 2 ^ 32 := by
  rw [BitVec.toNat_shiftLeft, Nat.shiftLeft_eq]

theorem toNat_shiftRightWord (a : Word) (n : Nat) : (a >>> n).toNat = a.toNat / 2 ^ n := by
  rw [BitVec.toNat_ushiftRight, Nat.shiftRight_eq_div_pow]

/-- An arithmetic shift is the division that rounds down (R198, R201). -/
theorem toInt_sshiftRightWord (a : Word) (n : Nat) : (a.sshiftRight n).toInt = a.toInt / 2 ^ n := by
  rw [BitVec.toInt_sshiftRight, Int.shiftRight_eq_div_pow, Int.natCast_pow]
  rfl

/-- Settles O27: the shifts of a word in exact arithmetic, by the amount of the field or of the
register. -/
theorem shiftResults : Obligations.ShiftResults := by
  unfold Obligations.ShiftResults
  iterate 6 refine ⟨specialRow_of_decodeSpecial fun w h => by simp [decodeSpecial, h], ?_⟩
  simp only [← toNat_variableShift]
  refine ⟨?sll, ?srl, ?sra, ?sllv, ?srlv, ?srav⟩
  case sll => exact fun _ _ _ _ => runs_exists_of_writeBack rfl (toNat_shiftLeftWord _ _)
  case srl => exact fun _ _ _ _ => runs_exists_of_writeBack rfl (toNat_shiftRightWord _ _)
  case sra => exact fun _ _ _ _ => runs_exists_of_writeBack rfl (toInt_sshiftRightWord _ _)
  case sllv => exact fun _ _ _ _ => runs_exists_of_writeBack rfl (toNat_shiftLeftWord _ _)
  case srlv => exact fun _ _ _ _ => runs_exists_of_writeBack rfl (toNat_shiftRightWord _ _)
  case srav => exact fun _ _ _ _ => runs_exists_of_writeBack rfl (toInt_sshiftRightWord _ _)

end Sys2Proof.Machine
end

section
/-! ### Add and subtract that wrap -/

namespace Sys2Proof.Machine

theorem toNat_addWord (a b : Word) :
    ((a + b).toNat : Int) = (a.toNat + b.toNat : Int) % 2 ^ 32 := by
  rw [BitVec.toNat_add]
  push_cast
  rfl

theorem toNat_subWord (a b : Word) :
    ((a - b).toNat : Int) = (a.toNat - b.toNat : Int) % 2 ^ 32 := by
  have hb := b.isLt
  rw [BitVec.toNat_sub]
  omega

/-- The sum with a sign-extended immediate wraps like the sum with its value (R187). -/
theorem toNat_add_signImm (a : Word) (imm : BitVec 16) :
    ((a + signImm imm).toNat : Int) = (a.toNat + imm.toInt : Int) % 2 ^ 32 := by
  rw [toNat_addWord, toNat_signImm, Int.add_emod_emod]

/-- Settles O25: each instruction writes the word operation, which is exact modulo `2 ^ 32`. -/
theorem wrappingAddSub : Obligations.WrappingAddSub := by
  unfold Obligations.WrappingAddSub
  iterate 2 refine ⟨specialRow_of_decodeSpecial fun w h => by simp [decodeSpecial, h], ?_⟩
  refine ⟨fun w h => by simp [decode, h], ?addu, ?subu, ?addiu⟩
  case addu =>
    exact fun _ _ _ _ => (runs_of_writeBack rfl).imp fun _ ht => ⟨_, toNat_addWord _ _, ht⟩
  case subu =>
    exact fun _ _ _ _ => (runs_of_writeBack rfl).imp fun _ ht => ⟨_, toNat_subWord _ _, ht⟩
  case addiu =>
    exact fun _ _ _ _ => (runs_of_writeBack rfl).imp fun _ ht => ⟨_, toNat_add_signImm _ _, ht⟩

end Sys2Proof.Machine
end

section
/-! ### Compares -/

namespace Sys2Proof.Machine

/-- What a compare writes, from what its test decides. -/
theorem truth_of_iff {b : Bool} {p : Prop} [Decidable p] (h : b = true ↔ p) :
    truth b = if p then 1 else 0 :=
  ite_congr (propext h) (fun _ => rfl) (fun _ => rfl)

/-- What a compare does, from what its test decides. -/
theorem runs_of_test {i : Instr} {r : RegIdx} {b : Bool} {p : Prop} [Decidable p] {s : State}
    (h : exec i s = writeBack r (truth b) s) (hb : b = true ↔ p) :
    Runs i s (ImmediateWrite r (if p then 1 else 0) s) :=
  truth_of_iff hb ▸ runs_of_writeBack h

/-- Settles O28: each test compares the exact values, that of SLTIU the two words unsigned. -/
theorem compareResults : Obligations.CompareResults := by
  unfold Obligations.CompareResults
  iterate 2 refine ⟨specialRow_of_decodeSpecial fun w h => by simp [decodeSpecial, h], ?_⟩
  iterate 2 refine ⟨fun w h => by simp [decode, h], ?_⟩
  refine ⟨?slt, ?sltu, ?slti, ?sltiu⟩
  case slt => exact fun _ _ _ _ => runs_of_test rfl BitVec.slt_iff_toInt_lt
  case sltu => exact fun _ _ _ _ => runs_of_test rfl BitVec.ult_iff_toNat_lt
  case slti =>
    intro _ _ imm _
    rw [← toInt_signImm]
    exact runs_of_test rfl BitVec.slt_iff_toInt_lt
  case sltiu =>
    intro _ _ imm _
    rw [← toNat_signImm]
    exact runs_of_test rfl (BitVec.ult_iff_toNat_lt.trans Int.ofNat_lt.symm)

end Sys2Proof.Machine
end

section
/-! ### The end of an instruction that writes HI and LO, and the moves -/

namespace Sys2Proof.Machine

section
variable {i : Instr} {hi lo : Word} {s : State}

/-- What an instruction does that ends in `writeHiLo`. -/
theorem runs_of_writeHiLo (h : exec i s = writeHiLo hi lo s) : Runs i s (WroteHiLo hi lo s) :=
  ⟨_, h, wroteHiLo_writeHiLo hi lo s⟩

/-- An instruction that writes HI and LO writes words with the property of its results. -/
theorem runs_exists_of_wroteHiLo {Q : Word → Word → Prop} (h : Runs i s (WroteHiLo hi lo s))
    (hq : Q hi lo) : Runs i s fun t => ∃ hi lo : Word, WroteHiLo hi lo s t ∧ Q hi lo :=
  h.imp fun _ ht => ⟨hi, lo, ht, hq⟩

end

/-- Settles O31: a move from HI or LO ends in `writeBack`, a move to HI or LO in `writeHiLo`. -/
theorem hiLoMoves : Obligations.HiLoMoves := by
  unfold Obligations.HiLoMoves
  iterate 4 refine ⟨specialRow_of_decodeSpecial fun w h => by simp [decodeSpecial, h], ?_⟩
  exact ⟨fun _ _ => runs_of_writeBack rfl, fun _ _ => runs_of_writeBack rfl,
    fun _ _ => runs_of_writeHiLo rfl, fun _ _ => runs_of_writeHiLo rfl⟩

end Sys2Proof.Machine
end

section
/-! ### Multiply -/

namespace Sys2Proof.Machine

/-- A product is its two halves put together (R221, R222). -/
theorem append_halves (p : BitVec 64) : p.extractLsb' 32 32 ++ p.extractLsb' 0 32 = p :=
  BitVec.extractLsb'_append_extractLsb'

/-- The halves of a signed product: the high one signed, the low one unsigned (R221). -/
theorem toInt_halves (p : BitVec 64) :
    (p.extractLsb' 32 32).toInt * 2 ^ 32 + (p.extractLsb' 0 32).toNat = p.toInt := by
  conv_rhs => rw [← append_halves p, BitVec.toInt_append, if_neg (by decide), mul_comm]

/-- The halves of an unsigned product (R222). -/
theorem toNat_halves (p : BitVec 64) :
    (p.extractLsb' 32 32).toNat * 2 ^ 32 + (p.extractLsb' 0 32).toNat = p.toNat := by
  conv_rhs => rw [← append_halves p, BitVec.toNat_append,
    ← Nat.shiftLeft_add_eq_or_of_lt (BitVec.isLt _), Nat.shiftLeft_eq]

/-- 64 bits hold the signed product of two words (R221). -/
theorem toInt_product (a b : Word) :
    (BitVec.ofInt 64 (a.toInt * b.toInt)).toInt = a.toInt * b.toInt := by
  have hle : a.toInt * b.toInt ≤ 2 ^ 62 := BitVec.toInt_mul_toInt_le
  have hge : -2 ^ 62 ≤ a.toInt * b.toInt := BitVec.le_toInt_mul_toInt
  exact BitVec.toInt_ofInt_eq_self (by decide) (by omega) (by omega)

/-- 64 bits hold the unsigned product of two words (R222). -/
theorem toNat_product (a b : Word) :
    (BitVec.ofNat 64 (a.toNat * b.toNat)).toNat = a.toNat * b.toNat :=
  (BitVec.toNat_ofNat _ _).trans (Nat.mod_eq_of_lt BitVec.toNat_mul_toNat_lt)

/-- Settles O29: the words written are the halves of the product, which 64 bits hold exactly. -/
theorem multiplyResults : Obligations.MultiplyResults := by
  unfold Obligations.MultiplyResults
  iterate 2 refine ⟨specialRow_of_decodeSpecial fun w h => by simp [decodeSpecial, h], ?_⟩
  refine ⟨?mult, ?multu⟩
  case mult =>
    exact fun _ _ _ => runs_exists_of_wroteHiLo (runs_of_writeHiLo rfl)
      ((toInt_halves _).trans (toInt_product _ _))
  case multu =>
    exact fun _ _ _ => runs_exists_of_wroteHiLo (runs_of_writeHiLo rfl)
      ((toNat_halves _).trans (toNat_product _ _))

end Sys2Proof.Machine
end

section
/-! ### Divide -/

namespace Sys2Proof.Machine

/-- The one signed quotient of words that no word holds has these operands (R223). -/
theorem toInt_eq_overflow_iff (a b : Word) :
    a.toInt = -0x80000000 ∧ b.toInt = -1 ↔ a = 0x80000000 ∧ b = 0xFFFFFFFF := by
  rw [← BitVec.toInt_inj, ← BitVec.toInt_inj]
  rfl

/-- Away from its corners DIV is the signed division of words (R223). -/
theorem divSigned_toInt {a b : Word} (hb : b ≠ 0) (hfit : ¬(a = 0x80000000 ∧ b = 0xFFFFFFFF)) :
    divSigned a.toInt b.toInt = (a.srem b, a.sdiv b) := by
  have hb' : b.toInt ≠ 0 := BitVec.toInt_ne.mpr hb
  have hquot : (a.sdiv b).toInt = a.toInt.tdiv b.toInt :=
    BitVec.toInt_sdiv_of_ne_or_ne a b (not_and_or.mp hfit)
  have hrem : a.toInt - a.toInt.tdiv b.toInt * b.toInt = (a.srem b).toInt := by
    rw [BitVec.toInt_srem, Int.tmod_def, mul_comm]
  rw [divSigned, if_neg hb', if_neg (mt (toInt_eq_overflow_iff a b).mp hfit), hrem, ← hquot,
    BitVec.ofInt_toInt, BitVec.ofInt_toInt]

/-- A zero divisor leaves the dividend in HI and a quotient of its opposite sign in LO (D23). -/
theorem divSigned_zero (a : Word) :
    divSigned a.toInt 0 = (a, if a.toInt < 0 then 1 else 0xFFFFFFFF) := by
  rw [divSigned, if_pos rfl, BitVec.ofInt_toInt]
  simp only [← not_lt, ite_not]
  rfl

/-- For a divisor other than 0 DIVU is the unsigned division of words (R224). -/
theorem divUnsigned_toNat {a b : Word} (hb : b ≠ 0) :
    divUnsigned a.toNat b.toNat = (a % b, a / b) := by
  have hb' : b.toNat ≠ 0 := BitVec.toNat_ne.mp hb
  rw [divUnsigned, if_neg hb', ← BitVec.toNat_umod, ← BitVec.toNat_udiv, BitVec.ofNat_toNat,
    BitVec.ofNat_toNat, BitVec.setWidth_eq, BitVec.setWidth_eq]

/-- A zero divisor leaves the dividend in HI and all ones in LO (D23). -/
theorem divUnsigned_zero (a : Word) : divUnsigned a.toNat 0 = (a, 0xFFFFFFFF) := by
  rw [divUnsigned, if_pos rfl, BitVec.ofNat_toNat, BitVec.setWidth_eq]
  rfl

/-- The remainder of words is 0 or has the sign of the dividend (R223). -/
theorem srem_eq_zero_or_sign (a b : Word) :
    a.srem b = 0 ∨ ((a.srem b).toInt < 0 ↔ a.toInt < 0) := by
  by_cases hdvd : b.toInt ∣ a.toInt
  · exact .inl (BitVec.srem_zero_of_dvd hdvd)
  · right
    rw [BitVec.toInt_srem, ← Int.sign_eq_neg_one_iff_neg, Int.sign_tmod, if_neg hdvd,
      Int.sign_eq_neg_one_iff_neg]

/-- The division law of words: it fails only for the quotient that no word holds (R223). -/
theorem toInt_eq_sdiv_mul_add_srem {a b : Word} (hfit : ¬(a = 0x80000000 ∧ b = 0xFFFFFFFF)) :
    a.toInt = (a.sdiv b).toInt * b.toInt + (a.srem b).toInt := by
  rw [BitVec.toInt_sdiv_of_ne_or_ne a b (not_and_or.mp hfit), BitVec.toInt_srem,
    Int.tdiv_mul_add_tmod]

/-- The remainder of words is smaller than the divisor (R223). -/
theorem natAbs_srem_lt (a : Word) {b : Word} (hb : b ≠ 0) :
    (a.srem b).toInt.natAbs < b.toInt.natAbs := by
  rw [BitVec.toInt_srem, Int.natAbs_tmod]
  exact Nat.mod_lt _ (Int.natAbs_pos.mpr (BitVec.toInt_ne.mpr hb))

section
variable {rs rt : RegIdx} {hi lo : Word} {s : State}

/-- DIV writes the pair that `divSigned` gives (R223). -/
theorem runs_div (h : divSigned (s.readReg rs).toInt (s.readReg rt).toInt = (hi, lo)) :
    Runs (.div rs rt) s (WroteHiLo hi lo s) :=
  runs_of_writeHiLo (congrArg (fun r : Word × Word => writeHiLo r.1 r.2 s) h)

/-- DIVU writes the pair that `divUnsigned` gives (R224). -/
theorem runs_divu (h : divUnsigned (s.readReg rs).toNat (s.readReg rt).toNat = (hi, lo)) :
    Runs (.divu rs rt) s (WroteHiLo hi lo s) :=
  runs_of_writeHiLo (congrArg (fun r : Word × Word => writeHiLo r.1 r.2 s) h)

end

/-- Settles O30: away from its corners each division is that of words; the corners are evaluated. -/
theorem divideResults : Obligations.DivideResults := by
  unfold Obligations.DivideResults
  iterate 2 refine ⟨specialRow_of_decodeSpecial fun w h => by simp [decodeSpecial, h], ?_⟩
  refine ⟨?div, ?divu, ?divZero, ?divOverflow, ?divuZero⟩
  case div =>
    exact fun _ _ _ hb hfit => runs_exists_of_wroteHiLo (runs_div (divSigned_toInt hb hfit))
      ⟨toInt_eq_sdiv_mul_add_srem hfit, natAbs_srem_lt _ hb, srem_eq_zero_or_sign _ _⟩
  case divu =>
    exact fun _ _ _ hb => runs_exists_of_wroteHiLo (runs_divu (divUnsigned_toNat hb))
      ⟨(Nat.div_add_mod' _ _).symm, Nat.mod_lt _ (Nat.pos_of_ne_zero (BitVec.toNat_ne.mp hb))⟩
  case divZero => exact fun _ _ _ hb => runs_div (hb ▸ divSigned_zero _)
  case divOverflow => exact fun _ _ _ ha hb => runs_div (by rw [ha, hb]; rfl)
  case divuZero => exact fun _ _ _ hb => runs_divu (hb ▸ divUnsigned_zero _)

end Sys2Proof.Machine
end

section
/-! ### The targets of jumps and branches -/

namespace Sys2Proof.Machine

/-- The mask of the 256 MB region keeps the top four bits of an address (R114). -/
theorem toNat_and_regionMask (a : Word) :
    (a &&& 0xF0000000#32).toNat = (a.toNat / 2 ^ 28) <<< 28 := by
  have hlt := a.isLt
  have hmask : 0xF0000000#32 = BitVec.allOnes 32 <<< 28 := by decide
  rw [hmask, ← BitVec.shiftLeft_ushiftRight, toNat_shiftLeftWord, toNat_shiftRightWord,
    Nat.shiftLeft_eq]
  omega

/-- The target field counts words (R114). -/
theorem toNat_targetField (target : BitVec 26) :
    (target.setWidth 32 <<< 2).toNat = target.toNat * 4 := by
  have hlt := target.isLt
  rw [toNat_shiftLeftWord, BitVec.toNat_setWidth_of_le (by decide)]
  omega

/-- The region and the target field do not overlap (R114). -/
theorem toNat_region_or_targetField (a : Word) (target : BitVec 26) :
    ((a &&& 0xF0000000#32) ||| (target.setWidth 32 <<< 2)).toNat =
      a.toNat / 2 ^ 28 * 2 ^ 28 + target.toNat * 4 := by
  have hfield : target.toNat * 4 < 2 ^ 28 := by omega
  rw [BitVec.toNat_or, toNat_and_regionMask, toNat_targetField,
    ← Nat.shiftLeft_add_eq_or_of_lt hfield, Nat.shiftLeft_eq]

/-- The target of J and JAL in exact arithmetic (R241, R242). -/
theorem toNat_jumpTarget (target : BitVec 26) (s : State) :
    (jumpTarget target s).toNat = (s.pc + 4).toNat / 2 ^ 28 * 2 ^ 28 + target.toNat * 4 :=
  toNat_region_or_targetField (s.pc + 4) target

/-- A branch counts its offset in words (R114). -/
theorem branchTarget_eq (imm : BitVec 16) (s : State) :
    branchTarget imm s = s.pc + 4 + BitVec.ofInt 32 (imm.toInt * 4) := by
  rw [branchTarget, BitVec.shiftLeft_eq_mul_twoPow, BitVec.ofInt_mul]
  rfl

end Sys2Proof.Machine
end

section
/-! ### The map of opcode 1, the tests of the branches, and what a transfer does -/

namespace Sys2Proof.Machine

/-- A row of the map of opcode 1, from what `decodeRegimm` does with its selector. -/
theorem regimmRow_of_decodeRegimm {sel : BitVec 5} {i : RegIdx → BitVec 16 → Instr}
    (h : ∀ w, rtOf w = sel → decodeRegimm w = i (rsOf w) (immOf w)) : RegimmRow sel i :=
  fun w hop hsel => (decode_regimm hop).trans (h w hsel)

theorem not_sle_zero_iff (x : Word) : (!x.sle 0#32) = true ↔ x.toInt > 0 := by
  rw [Bool.not_eq_true', ← Bool.not_eq_true, sle_zero_iff, not_le]

theorem not_isNegative_iff (x : Word) : (!isNegative x) = true ↔ x.toInt ≥ 0 := by
  rw [Bool.not_eq_true', ← Bool.not_eq_true, isNegative_iff, not_lt]

section
variable {i : Instr} {s : State} {b : Bool} {a : Word} {r : RegIdx}

/-- A transfer that is taken outside a delay slot records its target and links (R240). -/
theorem transfer_of_taken_outsideSlot (hs : s.bdPending = false) (hb : b = true) (a : Word)
    (rd : Option RegIdx) : transfer b a rd s = .next ((link rd s).setJump a).advance := by
  simp [transfer, hs, hb]

/-- A transfer that is not taken only links, in a delay slot too (R254). -/
theorem transfer_of_notTaken (hb : ¬b = true) (a : Word) (rd : Option RegIdx) :
    transfer b a rd s = .next (link rd s).advance :=
  if_neg hb

theorem runs_of_taken (h : exec i s = transfer b a none s) (hs : s.bdPending = false)
    (hb : b = true) : Runs i s fun t => RecordsJump a s t ∧ NoRegisterWrite s t :=
  ⟨_, h.trans (transfer_of_taken_outsideSlot hs hb _ _), recordsJump_transfer a s⟩

theorem runs_of_taken_link (h : exec i s = transfer b a (some r) s) (hs : s.bdPending = false)
    (hb : b = true) : Runs i s fun t => RecordsJump a s t ∧ Links r s t :=
  ⟨_, h.trans (transfer_of_taken_outsideSlot hs hb _ _), recordsJump_link a r s⟩

section
variable {imm : BitVec 16} {c : Prop}

/-- What a conditional branch does, from what its test decides. -/
theorem branchRule_of_transfer (h : exec i s = transfer b (branchTarget imm s) none s)
    (hb : b = true ↔ c) : BranchRule i imm c s := by
  rw [branchTarget_eq] at h
  exact ⟨fun hc hs => runs_of_taken h hs (hb.mpr hc),
    fun hc => ⟨_, h.trans (transfer_of_notTaken (mt hb.mp hc) _ _), rfl⟩⟩

/-- What a linking branch does, from what its test decides. -/
theorem linkingBranchRule_of_transfer
    (h : exec i s = transfer b (branchTarget imm s) (some 31) s) (hb : b = true ↔ c) :
    LinkingBranchRule i imm c s := by
  rw [branchTarget_eq] at h
  exact ⟨fun hc hs => runs_of_taken_link h hs (hb.mpr hc),
    fun hc => ⟨_, h.trans (transfer_of_notTaken (mt hb.mp hc) _ _),
      immediateWrite_writeBack 31 (s.pc + 8) s⟩⟩

end

end

end Sys2Proof.Machine
end

section
/-! ### Jumps -/

namespace Sys2Proof.Machine

/-- Settles O32: each jump is a transfer that is always taken, its target read before the link. -/
theorem jumpsRecordTarget : Obligations.JumpsRecordTarget := by
  unfold Obligations.JumpsRecordTarget
  iterate 2 refine ⟨fun w h => by simp [decode, h], ?_⟩
  iterate 2 refine ⟨specialRow_of_decodeSpecial fun w h => by simp [decodeSpecial, h], ?_⟩
  refine ⟨?j, ?jal, ?jr, ?jalr⟩
  case j =>
    exact fun _ _ hs => (runs_of_taken rfl hs rfl).imp fun _ ht => ⟨_, toNat_jumpTarget _ _, ht⟩
  case jal =>
    exact fun _ _ hs => (runs_of_taken_link rfl hs rfl).imp fun _ ht =>
      ⟨_, toNat_jumpTarget _ _, ht⟩
  case jr => exact fun _ _ hs => runs_of_taken rfl hs rfl
  case jalr => exact fun _ _ _ hs => runs_of_taken_link rfl hs rfl

end Sys2Proof.Machine
end

section
/-! ### Conditional branches -/

namespace Sys2Proof.Machine

/-- Settles O33: each branch is a transfer to `branchTarget`, whose test decides its condition. -/
theorem branchesOnCondition : Obligations.BranchesOnCondition := by
  unfold Obligations.BranchesOnCondition
  iterate 4 refine ⟨fun w h => by simp [decode, h], ?_⟩
  iterate 2 refine ⟨regimmRow_of_decodeRegimm fun w h => by simp [decodeRegimm, h], ?_⟩
  refine ⟨?beq, ?bne, ?blez, ?bgtz, ?bltz, ?bgez⟩
  case beq => exact fun _ _ _ _ => branchRule_of_transfer rfl beq_iff_eq
  case bne => exact fun _ _ _ _ => branchRule_of_transfer rfl bne_iff_ne
  case blez => exact fun _ _ _ => branchRule_of_transfer rfl (sle_zero_iff _)
  case bgtz => exact fun _ _ _ => branchRule_of_transfer rfl (not_sle_zero_iff _)
  case bltz => exact fun _ _ _ => branchRule_of_transfer rfl (isNegative_iff _)
  case bgez => exact fun _ _ _ => branchRule_of_transfer rfl (not_isNegative_iff _)

/-- Settles O34: each linking branch is a transfer whose test reads the state before the link. -/
theorem linkingBranches : Obligations.LinkingBranches := by
  unfold Obligations.LinkingBranches
  iterate 2 refine ⟨regimmRow_of_decodeRegimm fun w h => by simp [decodeRegimm, h], ?_⟩
  exact ⟨fun _ _ _ => linkingBranchRule_of_transfer rfl (isNegative_iff _),
    fun _ _ _ => linkingBranchRule_of_transfer rfl (not_isNegative_iff _)⟩

end Sys2Proof.Machine
end

section
/-! ### The bytes of a word, and the merges of the unaligned loads and stores -/

namespace Sys2Proof.Machine

/-- Words with the same four bytes are equal. -/
theorem word_eq_of_bytes {x y : Word}
    (h : ∀ j < 4, x.extractLsb' (8 * j) 8 = y.extractLsb' (8 * j) 8) : x = y := by
  apply BitVec.eq_of_getLsbD_eq
  intro i hi
  have hbit := congrArg (·.getLsbD (i % 8)) (h (i / 8) (by omega))
  simpa [BitVec.getLsbD_extractLsb', Nat.mod_lt, Nat.div_add_mod] using hbit

/-- A word is the sum of its bytes, each at its weight. -/
theorem toNat_bytes (v : Word) :
    v.toNat = (v.extractLsb' (8 * 0) 8).toNat + (v.extractLsb' (8 * 1) 8).toNat * 2 ^ 8
      + (v.extractLsb' (8 * 2) 8).toNat * 2 ^ 16 + (v.extractLsb' (8 * 3) 8).toNat * 2 ^ 24 := by
  simp only [BitVec.extractLsb'_toNat, Nat.shiftRight_eq_div_pow]
  omega

section
variable {n j : Nat} (x y : Word)

/-- `x` moved up by `n` bytes, over the low `n` bytes of `y`. -/
theorem byte_shiftUp_over (hn : n ≤ 4) (hj : j < 4) :
    (x <<< (8 * n) ||| (y &&& BitVec.allOnes 32 >>> (8 * (4 - n)))).extractLsb' (8 * j) 8 =
      if n ≤ j then x.extractLsb' (8 * (j - n)) 8 else y.extractLsb' (8 * j) 8 := by
  apply BitVec.eq_of_getLsbD_eq
  intro i hi
  have hin : 8 * j + i < 32 := by omega
  split
  · have hup : ¬8 * j + i < 8 * n := by omega
    have hmask : ¬8 * (4 - n) + (8 * j + i) < 32 := by omega
    have hsub : 8 * j + i - 8 * n = 8 * (j - n) + i := by omega
    simp [BitVec.getLsbD_extractLsb', -BitVec.getLsbD_eq_getElem, -BitVec.reduceAllOnes, hin, hup,
      hmask, hsub]
  · have hlow : 8 * j + i < 8 * n := by omega
    have hmask : 8 * (4 - n) + (8 * j + i) < 32 := by omega
    simp [BitVec.getLsbD_extractLsb', -BitVec.getLsbD_eq_getElem, -BitVec.reduceAllOnes, hlow,
      hmask]

/-- `y` moved down by `n` bytes, under the high `n` bytes of `x`. -/
theorem byte_shiftDown_under (hn : n ≤ 4) (hj : j < 4) :
    ((x &&& BitVec.allOnes 32 <<< (8 * (4 - n))) ||| y >>> (8 * n)).extractLsb' (8 * j) 8 =
      if j + n ≤ 3 then y.extractLsb' (8 * (j + n)) 8 else x.extractLsb' (8 * j) 8 := by
  apply BitVec.eq_of_getLsbD_eq
  intro i hi
  have hin : 8 * j + i < 32 := by omega
  have hadd : 8 * n + (8 * j + i) = 8 * (j + n) + i := by omega
  split
  · have hmask : 8 * j + i < 8 * (4 - n) := by omega
    simp [BitVec.getLsbD_extractLsb', -BitVec.getLsbD_eq_getElem, -BitVec.reduceAllOnes, hin,
      hmask, hadd]
  · have hmask : ¬8 * j + i < 8 * (4 - n) := by omega
    have hpos : 8 * j + i - 8 * (4 - n) < 32 := by omega
    have hdown : y.getLsbD (8 * (j + n) + i) = false := BitVec.getLsbD_of_ge _ _ (by omega)
    simp [BitVec.getLsbD_extractLsb', -BitVec.getLsbD_eq_getElem, -BitVec.reduceAllOnes, hin,
      hmask, hpos, hadd, hdown]

end

theorem lane_cases (k : BitVec 2) : k = 0 ∨ k = 1 ∨ k = 2 ∨ k = 3 := by
  revert k
  decide

section
variable (k : BitVec 2) (m v : Word) {j : Nat}

theorem lwlMerge_eq : lwlMerge k m v =
    m <<< (8 * (3 - k.toNat)) ||| (v &&& BitVec.allOnes 32 >>> (8 * (4 - (3 - k.toNat)))) := by
  obtain rfl | rfl | rfl | rfl := lane_cases k <;> simp [lwlMerge]

theorem lwrMerge_eq : lwrMerge k m v =
    (v &&& BitVec.allOnes 32 <<< (8 * (4 - k.toNat))) ||| m >>> (8 * k.toNat) := by
  obtain rfl | rfl | rfl | rfl := lane_cases k <;> simp [lwrMerge]

/-- SWL merges as LWR does from the opposite lane, with register and memory exchanged. -/
theorem swlMerge_eq : swlMerge k m v = lwrMerge (3 - k) v m := by
  obtain rfl | rfl | rfl | rfl := lane_cases k <;> rfl

/-- SWR merges as LWL does from the opposite lane, with register and memory exchanged. -/
theorem swrMerge_eq : swrMerge k m v = lwlMerge (3 - k) v m := by
  obtain rfl | rfl | rfl | rfl := lane_cases k <;> rfl

theorem toNat_three_sub : (3 - k).toNat = 3 - k.toNat := by bv_omega

/-- The bytes of LWL (R281). -/
theorem byte_lwlMerge (hj : j < 4) : (lwlMerge k m v).extractLsb' (8 * j) 8 =
    if 3 ≤ j + k.toNat then m.extractLsb' (8 * (j + k.toNat - 3)) 8
    else v.extractLsb' (8 * j) 8 := by
  have hk := k.isLt
  have hlane : 3 - k.toNat ≤ j ↔ 3 ≤ j + k.toNat := by omega
  have hbyte : j - (3 - k.toNat) = j + k.toNat - 3 := by omega
  rw [lwlMerge_eq, byte_shiftUp_over m v (by omega) hj, hbyte]
  simp only [hlane]

/-- The bytes of LWR (R282). -/
theorem byte_lwrMerge (hj : j < 4) : (lwrMerge k m v).extractLsb' (8 * j) 8 =
    if j + k.toNat ≤ 3 then m.extractLsb' (8 * (j + k.toNat)) 8
    else v.extractLsb' (8 * j) 8 := by
  have hk := k.isLt
  rw [lwrMerge_eq, byte_shiftDown_under v m (by omega) hj]

/-- The bytes of SWL (R288). -/
theorem byte_swlMerge (hj : j < 4) : (swlMerge k m v).extractLsb' (8 * j) 8 =
    if j ≤ k.toNat then v.extractLsb' (8 * (3 - k.toNat + j)) 8 else m.extractLsb' (8 * j) 8 := by
  have hk := k.isLt
  have hlane : 3 - k.toNat + j ≤ 3 ↔ j ≤ k.toNat := by omega
  rw [swlMerge_eq, byte_lwrMerge _ _ _ hj, toNat_three_sub, Nat.add_comm j]
  simp only [hlane]

/-- The bytes of SWR (R289). -/
theorem byte_swrMerge (hj : j < 4) : (swrMerge k m v).extractLsb' (8 * j) 8 =
    if k.toNat ≤ j then v.extractLsb' (8 * (j - k.toNat)) 8 else m.extractLsb' (8 * j) 8 := by
  have hk := k.isLt
  have hlane : 3 ≤ j + (3 - k.toNat) ↔ k.toNat ≤ j := by omega
  have hbyte : j + (3 - k.toNat) - 3 = j - k.toNat := by omega
  rw [swrMerge_eq, byte_lwlMerge _ _ _ hj, toNat_three_sub, hbyte]
  simp only [hlane]

end

end Sys2Proof.Machine
end

section
/-! ### Alignment as a remainder -/

namespace Sys2Proof.Machine

variable (a : Word)

theorem misalignedHalf_iff : misalignedHalf a = true ↔ a.toNat % 2 ≠ 0 := by
  simp [misalignedHalf, BitVec.getLsbD, Nat.testBit_zero]

theorem misalignedWord_iff : misalignedWord a = true ↔ a.toNat % 4 ≠ 0 := by
  simp only [misalignedWord, BitVec.getLsbD, Nat.testBit_eq_decide_div_mod_eq, Bool.or_eq_true,
    decide_eq_true_eq]
  omega

theorem toNat_laneOf : (laneOf a).toNat = a.toNat % 4 := rfl

/-- The aligned word begins below the address by its lane (R86). -/
theorem alignedWord_eq_sub : alignedWord a = a - BitVec.ofNat 32 (a.toNat % 4) := by
  have hmask : 0xFFFFFFFC#32 = BitVec.allOnes 32 <<< 2 := by decide
  rw [alignedWord, hmask, ← BitVec.shiftLeft_ushiftRight]
  apply BitVec.eq_of_toNat_eq
  rw [toNat_shiftLeftWord, toNat_shiftRightWord]
  bv_omega

end Sys2Proof.Machine
end

section
/-! ### Halves and words of memory, byte by byte -/

namespace Sys2Proof.Machine

/-- A byte placed in a lane is the byte of that lane; the other bytes are zero. -/
theorem byte_place (b : Byte) (n : Nat) {j : Nat} (hj : j < 4) :
    (place (8 * n) b).extractLsb' (8 * j) 8 = if j = n then b else 0 := by
  apply BitVec.eq_of_getLsbD_eq
  intro i hi
  have hin : 8 * j + i < 32 := by omega
  split
  · next h =>
    subst h
    have hbit : i < 32 := by omega
    simp [place, BitVec.getLsbD_extractLsb', -BitVec.getLsbD_eq_getElem, hin, hi, hbit]
  · have hout : 8 * j + i < 8 * n ∨ 8 ≤ 8 * j + i - 8 * n := by omega
    obtain h | h := hout
    · simp [place, BitVec.getLsbD_extractLsb', h]
    · simp [place, BitVec.getLsbD_extractLsb', -BitVec.getLsbD_eq_getElem, hin,
        BitVec.getLsbD_of_ge _ _ h]

section
variable (m : Memory) (a : Word)

/-- The bytes of a word read (R81, R83). -/
theorem Memory.byte_readWord {j : Nat} (hj : j < 4) :
    (m.readWord a).extractLsb' (8 * j) 8 = m.readByte (a + BitVec.ofNat 32 j) := by
  simp only [Memory.readWord, BitVec.extractLsb'_or, byte_place _ 0 hj, byte_place _ 1 hj,
    byte_place _ 2 hj, byte_place _ 3 hj]
  interval_cases j <;> simp

theorem Memory.toNat_readWord :
    (m.readWord a).toNat = (m.readByte a).toNat + (m.readByte (a + 1)).toNat * 2 ^ 8
      + (m.readByte (a + 2)).toNat * 2 ^ 16 + (m.readByte (a + 3)).toNat * 2 ^ 24 := by
  rw [toNat_bytes, m.byte_readWord a (j := 0) (by decide), m.byte_readWord a (j := 1) (by decide),
    m.byte_readWord a (j := 2) (by decide), m.byte_readWord a (j := 3) (by decide),
    BitVec.add_zero]
  rfl

theorem Memory.readHalf_eq_append : m.readHalf a = m.readByte (a + 1) ++ m.readByte a := by
  rw [Memory.readHalf, BitVec.or_comm, ← BitVec.setWidth_append_eq_shiftLeft_setWidth_or,
    BitVec.setWidth_eq]

theorem Memory.toInt_readHalf :
    (m.readHalf a).toInt = (m.readByte a).toNat + (m.readByte (a + 1)).toInt * 2 ^ 8 := by
  rw [Memory.readHalf_eq_append, BitVec.toInt_append, if_neg (by decide), mul_comm, add_comm]

theorem Memory.toNat_readHalf :
    (m.readHalf a).toNat = (m.readByte a).toNat + (m.readByte (a + 1)).toNat * 2 ^ 8 := by
  rw [Memory.readHalf_eq_append, BitVec.toNat_append,
    ← Nat.shiftLeft_add_eq_or_of_lt (BitVec.isLt _), Nat.shiftLeft_eq, add_comm]

end

section
variable {m : Memory} (hm : m.wf = true) (a x : Word)
include hm

/-- A byte of the word written (R82, R83). -/
theorem Memory.readByte_writeWord_inside {j : Nat} (hj : j < 4) :
    (m.writeWord a x).readByte (a + BitVec.ofNat 32 j) = x.extractLsb' (8 * j) 8 := by
  rw [Memory.readByte_writeWord hm]
  interval_cases j <;> simp [byteAt]

/-- A byte outside the word written (R82). -/
theorem Memory.readByte_writeWord_outside {b : Word} (hb : ∀ j < 4, b ≠ a + BitVec.ofNat 32 j) :
    (m.writeWord a x).readByte b = m.readByte b := by
  have h0 : b ≠ a := by simpa using hb 0 (by decide)
  have h1 : b ≠ a + 1 := hb 1 (by decide)
  have h2 : b ≠ a + 2 := hb 2 (by decide)
  have h3 : b ≠ a + 3 := hb 3 (by decide)
  rw [Memory.readByte_writeWord hm, if_neg h3, if_neg h2, if_neg h1, if_neg h0]

theorem Memory.readWord_writeWord : (m.writeWord a x).readWord a = x :=
  word_eq_of_bytes fun _ hj => by
    rw [Memory.byte_readWord _ _ hj, Memory.readByte_writeWord_inside hm a x hj]

end

end Sys2Proof.Machine
end

section
/-! ### Aligned loads -/

namespace Sys2Proof.Machine

theorem effectiveAddress_eq (rs : RegIdx) (imm : BitVec 16) (s : State) :
    effectiveAddress rs imm s = s.readReg rs + BitVec.ofInt 32 imm.toInt := rfl

section
variable {i : Instr} {s : State} {a : Word}

section
variable {rt : RegIdx} {c : BusCall} {v : Word}

/-- What an instruction does that ends in `finishLoad`. -/
theorem runs_of_finishLoad (h : exec i s = finishLoad rt c v s) :
    Runs i s (DelayedWrite rt v [c] s) :=
  ⟨_, h, delayedWrite_finishLoad rt c v s⟩

/-- An instruction that ends in `finishLoad` queues a word with the property of its result. -/
theorem runs_exists_of_finishLoad {Q : Word → Prop} (h : exec i s = finishLoad rt c v s)
    (hv : Q v) : Runs i s fun t => ∃ v : Word, Q v ∧ DelayedWrite rt v [c] s t :=
  (runs_of_finishLoad h).imp fun _ ht => ⟨v, hv, ht⟩

end

section
variable {e : Exception} {r : Result}

/-- A halfword access goes on where its address is even (R86). -/
theorem exec_of_alignedHalf (h : exec i s = if misalignedHalf a then raise e s else r)
    (ha : a.toNat % 2 = 0) : exec i s = r :=
  h.trans (if_neg fun hm => (misalignedHalf_iff a).mp hm ha)

/-- A word access goes on where its address is a multiple of 4 (R86). -/
theorem exec_of_alignedWord (h : exec i s = if misalignedWord a then raise e s else r)
    (ha : a.toNat % 4 = 0) : exec i s = r :=
  h.trans (if_neg fun hm => (misalignedWord_iff a).mp hm ha)

theorem traps_of_misalignedHalf (h : exec i s = if misalignedHalf a then raise e s else r)
    (ha : a.toNat % 2 ≠ 0) : Traps i s e.code e.coprocessor e.badAddress? :=
  traps_of_exec (h.trans (if_pos ((misalignedHalf_iff a).mpr ha)))

theorem traps_of_misalignedWord (h : exec i s = if misalignedWord a then raise e s else r)
    (ha : a.toNat % 4 ≠ 0) : Traps i s e.code e.coprocessor e.badAddress? :=
  traps_of_exec (h.trans (if_pos ((misalignedWord_iff a).mpr ha)))

end

end

/-- Settles O36: each load tests its address, and queues the value of the bytes it reads. -/
theorem loadResults : Obligations.LoadResults := by
  unfold Obligations.LoadResults
  iterate 5 refine ⟨fun w h => by simp [decode, h], ?_⟩
  intro rs rt imm s a ha
  rw [← effectiveAddress_eq] at ha
  subst ha
  refine ⟨?lb, ?lbu, ?lh, ?lhu, ?lw, ?lhTraps, ?lhuTraps, ?lwTraps⟩
  case lb => exact runs_exists_of_finishLoad rfl (BitVec.toInt_signExtend_of_le (by decide))
  case lbu => exact runs_exists_of_finishLoad rfl (BitVec.toNat_setWidth_of_le (by decide))
  case lh =>
    refine fun h => runs_exists_of_finishLoad (exec_of_alignedHalf rfl h) ?_
    rw [BitVec.toInt_signExtend_of_le (by decide), Memory.toInt_readHalf]
  case lhu =>
    refine fun h => runs_exists_of_finishLoad (exec_of_alignedHalf rfl h) ?_
    rw [BitVec.toNat_setWidth_of_le (by decide), Memory.toNat_readHalf]
  case lw =>
    exact fun h => runs_exists_of_finishLoad (exec_of_alignedWord rfl h) (Memory.toNat_readWord _ _)
  case lhTraps => exact traps_of_misalignedHalf (e := .adel _) rfl
  case lhuTraps => exact traps_of_misalignedHalf (e := .adel _) rfl
  case lwTraps => exact traps_of_misalignedWord (e := .adel _) rfl

end Sys2Proof.Machine
end

section
/-! ### Unaligned loads -/

namespace Sys2Proof.Machine

section
variable {rt : RegIdx} {s : State}

theorem mergesInto_iff {old : Word} : MergesInto rt s old ↔ old = mergeOperand rt s := by
  unfold MergesInto mergeOperand
  cases h : s.ldCur with
  | none => simp
  | some p =>
    obtain ⟨r, v⟩ := p
    by_cases hr : r = rt <;> simp [hr]

theorem mergeOperand_of_pending {v : Word} (h : s.ldCur = some ⟨rt, v⟩) :
    mergeOperand rt s = v := by
  simp [mergeOperand, h]

end

section
variable (m : Memory) (a old : Word) {j : Nat}

/-- The bytes of LWL from memory (R281). -/
theorem byte_lwlMerge_readWord (hj : j < 4) :
    (lwlMerge (laneOf a) (m.readWord (alignedWord a)) old).extractLsb' (8 * j) 8 =
      if 3 ≤ j + a.toNat % 4 then m.readByte (a + BitVec.ofNat 32 j - 3)
      else old.extractLsb' (8 * j) 8 := by
  rw [byte_lwlMerge _ _ _ hj, toNat_laneOf]
  split
  · have haddr : alignedWord a + BitVec.ofNat 32 (j + a.toNat % 4 - 3) =
        a + BitVec.ofNat 32 j - 3 := by
      rw [alignedWord_eq_sub]
      bv_omega
    rw [m.byte_readWord _ (by omega), haddr]
  · rfl

/-- The bytes of LWR from memory (R282). -/
theorem byte_lwrMerge_readWord (hj : j < 4) :
    (lwrMerge (laneOf a) (m.readWord (alignedWord a)) old).extractLsb' (8 * j) 8 =
      if j + a.toNat % 4 ≤ 3 then m.readByte (a + BitVec.ofNat 32 j)
      else old.extractLsb' (8 * j) 8 := by
  rw [byte_lwrMerge _ _ _ hj, toNat_laneOf]
  split
  · have haddr : alignedWord a + BitVec.ofNat 32 (j + a.toNat % 4) = a + BitVec.ofNat 32 j := by
      rw [alignedWord_eq_sub]
      bv_omega
    rw [m.byte_readWord _ (by omega), haddr]
  · rfl

/-- LWR at an address and LWL three bytes on give the four bytes from the address on. -/
theorem byte_lwlMerge_lwrMerge (hj : j < 4) :
    (lwlMerge (laneOf (a + 3)) (m.readWord (alignedWord (a + 3)))
      (lwrMerge (laneOf a) (m.readWord (alignedWord a)) old)).extractLsb' (8 * j) 8 =
        m.readByte (a + BitVec.ofNat 32 j) := by
  have hlane : (a + 3).toNat % 4 = (a.toNat + 3) % 4 := by bv_omega
  have haddr : a + 3 + BitVec.ofNat 32 j - 3 = a + BitVec.ofNat 32 j := by bv_omega
  rw [byte_lwlMerge_readWord _ _ _ hj, hlane, haddr]
  split
  · rfl
  · rw [byte_lwrMerge_readWord _ _ _ hj, if_pos (by omega)]

end

/-- Settles O37: each queues the merge of the aligned word into `mergeOperand`. -/
theorem unalignedLoadLanes : Obligations.UnalignedLoadLanes := by
  unfold Obligations.UnalignedLoadLanes
  iterate 2 refine ⟨fun w h => by simp [decode, h], ?_⟩
  intro rs rt imm s a old k ha hk hold
  rw [← effectiveAddress_eq] at ha
  obtain rfl := mergesInto_iff.mp hold
  subst hk ha
  rw [← alignedWord_eq_sub]
  exact ⟨(runs_of_finishLoad rfl).imp fun _ ht => ⟨_, ht, fun _ => byte_lwlMerge_readWord _ _ _⟩,
    (runs_of_finishLoad rfl).imp fun _ ht => ⟨_, ht, fun _ => byte_lwrMerge_readWord _ _ _⟩⟩

/-- P4 after a delayed write keeps the registers, where no load of another register was pending. -/
theorem DelayedWrite.readReg_commitPhase {r : RegIdx} {v : Word} {calls : List BusCall}
    {s t : State} (h : DelayedWrite r v calls s t) (hs : ∀ e, s.ldCur = some e → e.reg = r)
    (q : RegIdx) : t.commitPhase.readReg q = s.readReg q := by
  have hnone : t.ldCur = none := by
    refine Option.eq_none_iff_forall_ne_some.mpr fun e he => ?_
    obtain ⟨hpending, hother⟩ := (h.queue e).mp he
    exact hother (hs e hpending)
  have hregs : t.regs = s.regs := by rw [h.frame]
  exact State.readReg_congr (by simp [State.commitPhase, hnone, hregs]) q

/-- Settles O38: LWL reads the base as LWR did, and merges into the word LWR queued. -/
theorem unalignedLoadPair : Obligations.UnalignedLoadPair := by
  unfold Obligations.UnalignedLoadPair
  intro rs rt imm imm3 s a hnone himm ha
  rw [← effectiveAddress_eq] at ha
  subst ha
  obtain ⟨t, ht, hlwr⟩ := runs_of_finishLoad (i := .lwr rs rt imm) (s := s) rfl
  obtain ⟨u, hu, hlwl⟩ := runs_of_finishLoad (i := .lwl rs rt imm3) (s := t.commitPhase) rfl
  have hregs := hlwr.readReg_commitPhase (by simp [hnone])
  have hmem : t.commitPhase.mem = s.mem := by rw [State.commitPhase_mem, hlwr.frame]
  have haddr : effectiveAddress rs imm3 t.commitPhase = effectiveAddress rs imm s + 3 := by
    rw [effectiveAddress_eq, hregs, himm, BitVec.ofInt_add, ← BitVec.add_assoc]
    rfl
  refine ⟨t, ht, u, hu, _, hlwl.queued, ?_, fun j hj => ?_⟩
  · rw [hlwl.readReg_commitPhase (by simp [hlwr.queued]), hregs]
  · rw [mergeOperand_of_pending (s := t.commitPhase) hlwr.queued, haddr, hmem]
    exact byte_lwlMerge_lwrMerge _ _ _ hj

end Sys2Proof.Machine
end

section
/-! ### Stores -/

namespace Sys2Proof.Machine

section
variable {s : State} (hwf : s.mem.wf = true) (a : Word)
include hwf

theorem storesBytes_busWriteByte (b : Byte) :
    StoresBytes a [b] [.writeByte a b] s (s.busWriteByte a b).advance where
  stored i h := by
    obtain rfl : i = 0 := Nat.lt_one_iff.mp h
    simp [Memory.readByte_writeByte hwf]
  others c hc := by
    have h0 : c ≠ a := by simpa using hc 0 Nat.zero_lt_one
    simp [Memory.readByte_writeByte hwf, h0]
  canonical := Memory.wf_writeByte hwf _ _
  bus := rfl
  next := rfl
  frame := rfl

/-- The low half of a word, stored. -/
theorem storesBytes_busWriteHalf (v : Word) :
    StoresBytes a [v.extractLsb' 0 8, v.extractLsb' 8 8] [.writeHalf a (v.extractLsb' 0 16)] s
      (s.busWriteHalf a (v.extractLsb' 0 16)).advance where
  stored i h := by
    have hi : i < 2 := h
    interval_cases i <;>
      simp [Memory.readByte_writeHalf hwf, BitVec.extractLsb'_extractLsb'_of_le]
  others c hc := by
    have h0 : c ≠ a := by simpa using hc 0 Nat.zero_lt_two
    have h1 : c ≠ a + 1 := hc 1 Nat.one_lt_two
    rw [State.advance_mem, State.busWriteHalf_mem, Memory.readByte_writeHalf hwf, if_neg h1,
      if_neg h0]
  canonical := Memory.wf_writeHalf hwf _ _
  bus := rfl
  next := rfl
  frame := rfl

/-- A word written stores its `n` bytes from byte `lo` on and no others, where its other bytes are
those that memory held. -/
theorem storesBytes_writeWord {t : State} {x : Word} {lo n : Nat} {f : Nat → Byte}
    {calls : List BusCall} (hn : lo + n ≤ 4)
    (hnew : ∀ i < n, x.extractLsb' (8 * (lo + i)) 8 = f i)
    (hold : ∀ j < 4, j < lo ∨ lo + n ≤ j →
      x.extractLsb' (8 * j) 8 = s.mem.readByte (a + BitVec.ofNat 32 j))
    (ht : t = { s with
      mem := s.mem.writeWord a x, busCalls := s.busCalls ++ calls, pc := s.pc + 4 }) :
    StoresBytes (a + BitVec.ofNat 32 lo) ((List.range n).map f) calls s t := by
  subst ht
  refine ⟨fun i h => ?stored, fun b hb => ?others, Memory.wf_writeWord hwf _ _, rfl, rfl, rfl⟩
  case stored =>
    have hi : i < n := by simpa using h
    rw [BitVec.add_assoc, ← BitVec.ofNat_add, Memory.readByte_writeWord_inside hwf a x (by omega),
      hnew i hi, List.getElem_map, List.getElem_range]
  case others =>
    simp only [List.length_map, List.length_range, BitVec.add_assoc, ← BitVec.ofNat_add] at hb
    by_cases hword : ∃ j < 4, b = a + BitVec.ofNat 32 j
    · obtain ⟨j, hj, rfl⟩ := hword
      have hkept : j < lo ∨ lo + n ≤ j := by
        by_contra hin
        exact hb (j - lo) (by omega) (by rw [Nat.add_sub_cancel' (by omega)])
      rw [Memory.readByte_writeWord_inside hwf a x hj, hold j hj hkept]
    · exact Memory.readByte_writeWord_outside hwf a x fun j hj h => hword ⟨j, hj, h⟩

theorem storesBytes_busWriteWord (v : Word) :
    StoresBytes a [v.extractLsb' 0 8, v.extractLsb' 8 8, v.extractLsb' 16 8, v.extractLsb' 24 8]
      [.writeWord a v] s (s.busWriteWord a v).advance := by
  have h := storesBytes_writeWord hwf a (x := v) (lo := 0) (n := 4)
    (f := fun j => v.extractLsb' (8 * j) 8) (calls := [.writeWord a v]) (by decide)
    (fun i _ => by rw [Nat.zero_add]) (fun j hj hout => by omega) rfl
  rwa [BitVec.add_zero] at h

end

/-- Settles O39: each store tests its address, and hands the bus the low bytes of its register. -/
theorem storeResults : Obligations.StoreResults := by
  unfold Obligations.StoreResults
  iterate 3 refine ⟨fun w h => by simp [decode, h], ?_⟩
  rintro rs rt imm s v hwf rfl
  refine ⟨effectiveAddress_eq rs imm s, ?sb, ?sh, ?sw, ?shTraps, ?swTraps⟩
  case sb => exact ⟨_, rfl, storesBytes_busWriteByte hwf _ _⟩
  case sh => exact fun h => ⟨_, exec_of_alignedHalf rfl h, storesBytes_busWriteHalf hwf _ _⟩
  case sw => exact fun h => ⟨_, exec_of_alignedWord rfl h, storesBytes_busWriteWord hwf _ _⟩
  case shTraps => exact traps_of_misalignedHalf (e := .ades _) rfl
  case swTraps => exact traps_of_misalignedWord (e := .ades _) rfl

section
variable {i : Instr} {merge : BitVec 2 → Word → Word → Word} {a b v : Word} {s : State}
  {lo n : Nat} {f : Nat → Byte}

/-- What an instruction does that ends in `storeMerged`, from the bytes of its merge: `n` of them,
from byte `lo` on, are new, and the others those of the word read. -/
theorem runs_of_storeMerged (h : exec i s = storeMerged merge a v s) (hwf : s.mem.wf = true)
    (hb : alignedWord a + BitVec.ofNat 32 lo = b) (hn : lo + n ≤ 4)
    (hnew : ∀ m, ∀ i < n, (merge (laneOf a) m v).extractLsb' (8 * (lo + i)) 8 = f i)
    (hold : ∀ m, ∀ j < 4, j < lo ∨ lo + n ≤ j →
      (merge (laneOf a) m v).extractLsb' (8 * j) 8 = m.extractLsb' (8 * j) 8) :
    Runs i s fun t => StoresBytes b ((List.range n).map f)
      [.readWord (alignedWord a), .writeWord (alignedWord a) (t.mem.readWord (alignedWord a))]
      s t := by
  subst hb
  refine ⟨_, h, storesBytes_writeWord hwf _ hn (hnew (s.mem.readWord (alignedWord a)))
    (fun j hj hout => ?_) ?_⟩
  · rw [hold _ j hj hout, Memory.byte_readWord _ _ hj]
  · simp [State.advance, State.busWriteWord, State.noteBus, Memory.readWord_writeWord hwf]

end

/-- Settles O40: each writes the aligned word back with the bytes of its merge. -/
theorem partialStoreLanes : Obligations.PartialStoreLanes := by
  unfold Obligations.PartialStoreLanes
  iterate 2 refine ⟨fun w h => by simp [decode, h], ?_⟩
  intro rs rt imm s k w hwf hk hw
  have hlane : (laneOf (effectiveAddress rs imm s)).toNat = k := hk.symm
  have hlt : k < 4 := hk ▸ Nat.mod_lt _ (by decide)
  obtain rfl : w = alignedWord (effectiveAddress rs imm s) := by rw [hw, hk, alignedWord_eq_sub]
  refine ⟨?swl, ?swr⟩
  case swl =>
    refine runs_of_storeMerged (lo := 0) rfl hwf (BitVec.add_zero _) (by omega)
      (fun m i hi => ?_) (fun m j hj hout => ?_)
    · rw [Nat.zero_add, byte_swlMerge _ _ _ (by omega), hlane, if_pos (by omega)]
    · rw [byte_swlMerge _ _ _ hj, hlane, if_neg (by omega)]
  case swr =>
    refine runs_of_storeMerged (lo := k) rfl hwf (by rw [hw, BitVec.sub_add_cancel]) (by omega)
      (fun m i hi => ?_) (fun m j hj hout => ?_)
    · rw [byte_swrMerge _ _ _ (by omega), hlane, if_pos (by omega), Nat.add_sub_cancel_left]
    · rw [byte_swrMerge _ _ _ hj, hlane, if_neg (by omega)]

end Sys2Proof.Machine
end

section
/-! ### COP0: usability, and the numbers without a register -/

namespace Sys2Proof.Machine

/-- User mode with CU0 clear (R551). -/
theorem cop0Usable_eq_false {s : State} (hmode : s.cop0.sr.getLsbD 1 = true)
    (hcu : s.cop0.sr.getLsbD 28 = false) : s.cop0Usable = false := by
  rw [State.cop0Usable, hmode, hcu]
  rfl

/-- Every COP0 instruction tests that COP0 is usable before anything else (R300, R551). -/
theorem exec_cop0_of_unusable {i : Instr} {s : State} (hi : i.family = .cop0)
    (hs : s.cop0Usable = false) : exec i s = raise (.coprocessorUnusable 0) s := by
  cases i with
  | mfc0 | mtc0 | rfe | cop0Reserved => exact if_neg (by simp [hs])
  | _ => cases hi

theorem traps_cop0_of_unusable {i : Instr} {s : State} (hi : i.family = .cop0)
    (hs : s.cop0Usable = false) : Traps i s 11 0 none :=
  traps_of_exec (exec_cop0_of_unusable hi hs)

/-- Every word of opcode 0x10 is an instruction of COP0 (R119). -/
theorem family_decode_cop0 {w : Word} (hop : opcodeOf w = 0x10) : (decode w).family = .cop0 := by
  rw [decode_cop0 hop, decodeCop0]
  split
  · split <;> rfl
  · split <;> rfl

/-- A word whose `rs` field has its top bit clear is a move (R119, R120). -/
theorem isCoprocessorOp_eq_false {w : Word} {sub : BitVec 5} (hw : rsOf w = sub)
    (hsub : sub.getLsbD 4 = false) : isCoprocessorOp w = false := by
  rw [isCoprocessorOp_eq_rsOf_getLsbD, hw, hsub]

/-- A move of COP0, from what `decodeCop0` does with the moves. -/
theorem moveRow_of_decodeCop0 {sub : BitVec 5} {i : RegIdx → RegIdx → Instr}
    (hsub : sub.getLsbD 4 = false)
    (h : ∀ w, isCoprocessorOp w = false → rsOf w = sub → decodeCop0 w = i (rtOf w) (rdOf w)) :
    MoveRow 0x10 sub i :=
  fun w hop hw => (decode_cop0 hop).trans (h w (isCoprocessorOp_eq_false hw hsub) hw)

/-- Settles O45: every instruction of COP0 makes the one test first. -/
theorem cop0UnusableTraps : Obligations.Cop0UnusableTraps := by
  unfold Obligations.Cop0UnusableTraps
  intro s hmode hcu
  have hs := cop0Usable_eq_false hmode hcu
  exact ⟨fun w hop => traps_cop0_of_unusable (family_decode_cop0 hop) hs,
    fun _ _ => traps_cop0_of_unusable rfl hs, fun _ _ => traps_cop0_of_unusable rfl hs,
    traps_cop0_of_unusable rfl hs, fun _ _ => traps_cop0_of_unusable rfl hs⟩

end Sys2Proof.Machine
end

section
/-! ### What changes COP0 -/

namespace Sys2Proof.Machine

/-- COP0 is as before, or a trap was entered. -/
def Cop0OnlyByTrap (s t : State) : Prop := t.cop0 = s.cop0 ∨ ∃ e, t = s.raised e

section
variable (s : State)

theorem cop0OnlyByTrap_raise (e : Exception) : Leads (raise e s) (Cop0OnlyByTrap s) :=
  leads_next (.inr ⟨e, rfl⟩)

/-- A GTE instruction traps where the GTE is not usable. -/
theorem cop0OnlyByTrap_whenGteUsable {body : State → Result}
    (h : Leads (body s) (Cop0OnlyByTrap s)) : Leads (whenGteUsable body s) (Cop0OnlyByTrap s) :=
  leads_ite h (cop0OnlyByTrap_raise s _)

theorem cop0_link (rd : Option RegIdx) : (link rd s).cop0 = s.cop0 := by
  cases rd <;> rfl

theorem cop0OnlyByTrap_transfer (c : Bool) (a : Word) (rd : Option RegIdx) :
    Leads (transfer c a rd s) (Cop0OnlyByTrap s) := by
  obtain ⟨-, -, h⟩ | ⟨-, -, h⟩ | ⟨-, h⟩ := transfer_cases c a rd s <;> rw [h]
  · exact leads_fault _ _
  · exact leads_next (.inl (cop0_link s rd))
  · exact leads_next (.inl (cop0_link s rd))

theorem cop0OnlyByTrap_command {i : Instr} (h : i.family = .gteCommand) :
    Leads (exec i s) (Cop0OnlyByTrap s) := by
  obtain ⟨f, -, hexec⟩ := exec_gteCommand i h
  rw [hexec]
  exact leads_ite (leads_next (.inl rfl)) (cop0OnlyByTrap_raise s _)

/-- No instruction but those of COP0 changes COP0 otherwise than by trap entry. -/
theorem cop0OnlyByTrap_exec {i : Instr} (hi : i.family ≠ .cop0) :
    Leads (exec i s) (Cop0OnlyByTrap s) := by
  cases i with
  | sll | srl | sra | sllv | srlv | srav | addu | subu | and | or | xor | nor | slt | sltu | addiu
  | slti | sltiu | andi | ori | xori | lui | mfhi | mflo | mthi | mtlo | mult | multu | div | divu
  | lb | lbu | lwl | lwr | sb | swl | swr => exact leads_next (.inl rfl)
  | jr | jalr | j | jal => exact cop0OnlyByTrap_transfer s true _ _
  | bltz | bgez | bltzal | bgezal | beq | bne | blez | bgtz =>
    exact cop0OnlyByTrap_transfer s _ _ _
  | add | sub | addi | lh | lhu | lw | sh | sw =>
    exact leads_ite (cop0OnlyByTrap_raise s _) (leads_next (.inl rfl))
  | syscall | brk | cop1 | cop3 | lwc0 | lwc1 | lwc3 | swc0 | swc1 | swc3 | reserved =>
    exact cop0OnlyByTrap_raise s _
  | mfc0 | mtc0 | rfe | cop0Reserved => exact absurd rfl hi
  | mfc2 | cfc2 | mtc2 | ctc2 =>
    apply cop0OnlyByTrap_whenGteUsable
    exact leads_next (.inl rfl)
  | lwc2 | swc2 =>
    apply cop0OnlyByTrap_whenGteUsable
    exact leads_ite (cop0OnlyByTrap_raise s _) (leads_next (.inl rfl))
  | cop2Reserved | gteReserved =>
    exact cop0OnlyByTrap_whenGteUsable s (cop0OnlyByTrap_raise s _)
  | _ => exact cop0OnlyByTrap_command s rfl

end

/-- Settles O20: the instructions of COP0 trap, and no other changes COP0 but by a trap. -/
theorem userModeKeepsCop0 : Obligations.UserModeKeepsCop0 := by
  unfold Obligations.UserModeKeepsCop0
  intro i s t h hmode hcu
  have hkept : Leads (exec i s) (Cop0OnlyByTrap s) := by
    by_cases hi : i.family = .cop0
    · rw [exec_cop0_of_unusable hi (cop0Usable_eq_false hmode hcu)]
      exact cop0OnlyByTrap_raise s _
    · exact cop0OnlyByTrap_exec s hi
  obtain hsame | ⟨e, rfl⟩ := hkept t h
  · exact .inl hsame
  · exact .inr ⟨_, _, _, trapEntered_takeTrap e s true⟩

end Sys2Proof.Machine
end

section
/-! ### RFE -/

namespace Sys2Proof.Machine

/-- RFE where COP0 is usable (R304). -/
theorem exec_rfe_of_usable {s : State} (hs : s.cop0Usable = true) :
    exec .rfe s = .next s.popStatus.advance := if_pos hs

/-- Settles O44: the pop where COP0 is usable, and the trap of every COP0 instruction where not. -/
theorem rfePops : Obligations.RfePops := by
  unfold Obligations.RfePops
  refine ⟨fun w hop hbit hf => ?row, fun s hs => ?pops, fun s hmode hcu => ?traps⟩
  case row =>
    have hop' : isCoprocessorOp w = true := hbit
    simp [decode_cop0 hop, decodeCop0, hop', hf]
  case pops => exact ⟨_, exec_rfe_of_usable hs, popMode_low _, popMode_rest _, rfl⟩
  case traps => exact traps_cop0_of_unusable rfl (cop0Usable_eq_false hmode hcu)

/-- The pop keeps the bits above those it writes (R304). -/
theorem popMode_kept (sr : Word) : popMode sr &&& 0xFFFFFFF0#32 = sr &&& 0xFFFFFFF0#32 := by
  rw [popMode, BitVec.and_or_distrib_right, BitVec.and_assoc, BitVec.and_assoc]
  exact (congrArg _ BitVec.and_zero).trans BitVec.or_zero

/-- The push moves the current and previous modes up as one field (R523). -/
theorem pushMode_moves (sr : Word) : (pushMode sr).extractLsb' 2 4 = sr.extractLsb' 0 4 := by
  ext i hi
  simp [pushMode]
  interval_cases i <;> simp

/-- A trap enters kernel mode, where COP0 is usable (R523, R551). -/
theorem cop0Usable_takeTrap (e : Exception) (s : State) : (s.takeTrap e).cop0Usable = true := by
  have hkernel : (s.takeTrap e).cop0.sr.getLsbD 1 = false := by
    simpa using congrArg (BitVec.getLsbD · 1) (trapEntered_takeTrap e s s.trapped).current
  rw [State.cop0Usable, hkernel]
  rfl

/-- Settles O23: the pop takes back what the push moved, and leaves the old field the push wrote. -/
theorem rfeUndoesPush : Obligations.RfeUndoesPush := by
  unfold Obligations.RfeUndoesPush
  intro e s
  exact ⟨_, exec_rfe_of_usable (cop0Usable_takeTrap e s),
    (popMode_low _).trans (pushMode_moves _),
    (extractLsb'_congr_of_and (popMode_kept _) (by decide)).trans (pushMode_old _),
    (extractLsb'_congr_of_and (popMode_kept _) (by decide)).trans (pushMode_rest _)⟩

end Sys2Proof.Machine
end

section
/-! ### The moves of COP0 -/

namespace Sys2Proof.Machine

section
variable {rt rd : RegIdx} {s : State} (hs : s.cop0Usable = true)
include hs

theorem runs_mfc0 {v : Word} (h : s.cop0.read rd = some v) :
    Runs (.mfc0 rt rd) s (DelayedWrite rt v [] s) := by
  refine ⟨_, (if_pos hs).trans ?_, delayedWrite_move rt v s⟩
  rw [h]

theorem exec_mfc0_of_unmapped (h : s.cop0.read rd = none) :
    exec (.mfc0 rt rd) s = .fault .unmappedCop0Register := by
  refine (if_pos hs).trans ?_
  rw [h]

theorem runs_mtc0 {c : Cop0} (h : s.cop0.write rd (s.readReg rt) = some c) :
    Runs (.mtc0 rt rd) s (WroteCop0 c (rd == 12) s) := by
  refine ⟨_, (if_pos hs).trans ?_, rfl⟩
  rw [h]
  rfl

theorem exec_mtc0_of_unmapped (h : s.cop0.write rd (s.readReg rt) = none) :
    exec (.mtc0 rt rd) s = .fault .unmappedCop0Register := by
  refine (if_pos hs).trans ?_
  rw [h]

end

section
variable {n : RegIdx} (h : n ∉ ([3, 5, 6, 7, 8, 9, 11, 12, 13, 14, 15] : List RegIdx))
include h

/-- The COP0 numbers without a register read none (R46). -/
theorem Cop0.read_eq_none (c : Cop0) : c.read n = none := by
  unfold Cop0.read
  split <;> simp_all

/-- The COP0 numbers without a register take no write (R46). -/
theorem Cop0.write_eq_none (v : Word) (c : Cop0) : c.write n v = none := by
  unfold Cop0.write
  split <;> simp_all

end

/-- MTC0 to CAUSE writes bits 8 and 9 (R305). -/
theorem causeWritten_bit (c v : Word) : ∀ k < 32,
    ((c &&& 0xFFFFFCFF#32) ||| (v &&& 0x00000300#32)).getLsbD k =
      if k = 8 ∨ k = 9 then v.getLsbD k else c.getLsbD k := by
  have hwritten : ∀ k < 32, (0x00000300#32).getLsbD k = decide (k = 8 ∨ k = 9) := by decide
  have hkept : ∀ k < 32, (0xFFFFFCFF#32).getLsbD k = !decide (k = 8 ∨ k = 9) := by decide
  intro k hk
  rw [BitVec.getLsbD_or, BitVec.getLsbD_and, BitVec.getLsbD_and, hwritten k hk, hkept k hk]
  split <;> simp [*]

/-- Settles O42: the register of each number, queued. -/
theorem mfc0Reads : Obligations.Mfc0Reads := by
  unfold Obligations.Mfc0Reads
  refine ⟨moveRow_of_decodeCop0 rfl fun w hop h => by simp [decodeCop0, hop, h], fun rt s hs => ?_⟩
  iterate 11 refine ⟨runs_mfc0 hs rfl, ?_⟩
  exact fun rd h => exec_mfc0_of_unmapped hs (Cop0.read_eq_none h _)

/-- Settles O43: what a write to each number leaves of COP0; only that of SR, number 12, is noted. -/
theorem mtc0Writes : Obligations.Mtc0Writes := by
  unfold Obligations.Mtc0Writes
  refine ⟨moveRow_of_decodeCop0 rfl fun w hop h => by simp [decodeCop0, hop, h], ?_⟩
  rintro rt s v hs rfl
  iterate 6 refine ⟨runs_mtc0 hs rfl, ?_⟩
  refine ⟨(runs_mtc0 hs rfl).imp fun _ ht => ⟨_, ht, causeWritten_bit _ _⟩, ?_⟩
  iterate 4 refine ⟨runs_mtc0 hs rfl, ?_⟩
  exact fun rd h => exec_mtc0_of_unmapped hs (Cop0.write_eq_none h _ _)

end Sys2Proof.Machine
end

section
/-! ### The instructions that always trap -/

namespace Sys2Proof.Machine

/-- Settles O41: neither does anything but its trap. -/
theorem syscallBreakTrap : Obligations.SyscallBreakTrap := by
  unfold Obligations.SyscallBreakTrap
  iterate 2 refine ⟨specialRow_of_decodeSpecial fun w h => by simp [decodeSpecial, h], ?_⟩
  exact fun s => ⟨traps_of_exec (e := .syscall) rfl, traps_of_exec (e := .breakpoint) rfl⟩

/-- An instruction that only takes CoprocessorUnusable. -/
theorem traps_of_coprocessorUnusable {i : Instr} {s : State} (c : BitVec 2)
    (h : exec i s = raise (.coprocessorUnusable c) s) : Traps i s 11 c none :=
  traps_of_exec h

/-- Settles O46: each row of the primary map, and the one thing its instruction does. -/
theorem absentCoprocessorsTrap : Obligations.AbsentCoprocessorsTrap := by
  unfold Obligations.AbsentCoprocessorsTrap
  iterate 8 refine ⟨fun w h => by simp [decode, h], ?_⟩
  intro s
  exact ⟨traps_of_coprocessorUnusable 1 rfl, traps_of_coprocessorUnusable 3 rfl,
    traps_of_coprocessorUnusable 0 rfl, traps_of_coprocessorUnusable 1 rfl,
    traps_of_coprocessorUnusable 3 rfl, traps_of_coprocessorUnusable 0 rfl,
    traps_of_coprocessorUnusable 1 rfl, traps_of_coprocessorUnusable 3 rfl⟩

end Sys2Proof.Machine
end

section
/-! ### COP2: usability, the encodings of the moves, and the port numbers -/

namespace Sys2Proof.Machine

/-- Every instruction that needs the GTE tests that it is usable before anything else (R330, R450). -/
theorem exec_gte_of_unusable {i : Instr} {s : State} (hi : i.family.needsGte = true)
    (hs : s.gteUsable = false) : exec i s = raise (.coprocessorUnusable 2) s := by
  cases i with
  | mfc2 | cfc2 | mtc2 | ctc2 | lwc2 | swc2 | cop2Reserved | gteReserved
  | rtps | nclip | op | dpcs | intpl | mvmva | ncds | cdp | ncdt | nccs | cc | ncs | nct | sqr
  | dcpl | dpct | avsz3 | avsz4 | rtpt | gpf | gpl | ncct => exact if_neg (by simp [hs])
  | _ => cases hi

theorem traps_gte_of_unusable {i : Instr} {s : State} (hi : i.family.needsGte = true)
    (hs : s.gteUsable = false) : Traps i s 11 2 none :=
  traps_of_exec (exec_gte_of_unusable hi hs)

/-- Every word of opcode 0x12 is an instruction that needs the GTE (R120). -/
theorem needsGte_decode_cop2 {w : Word} (hop : opcodeOf w = 0x12) :
    (decode w).family.needsGte = true := by
  rw [decode_cop2 hop, decodeCop2]
  split
  · unfold decodeGte
    split <;> rfl
  · split <;> rfl

/-- A move of COP2, from what `decodeCop2` does with the moves. -/
theorem moveRow_of_decodeCop2 {sub : BitVec 5} {i : RegIdx → RegIdx → Instr}
    (hsub : sub.getLsbD 4 = false)
    (h : ∀ w, isCoprocessorOp w = false → rsOf w = sub → decodeCop2 w = i (rtOf w) (rdOf w)) :
    MoveRow 0x12 sub i :=
  fun w hop hw => (decode_cop2 hop).trans (h w (isCoprocessorOp_eq_false hw hsub) hw)

theorem lwc2_immediateRow : ImmediateRow 0x32 .lwc2 := fun w h => by simp [decode, h]

theorem swc2_immediateRow : ImmediateRow 0x3A .swc2 := fun w h => by simp [decode, h]

theorem dataPort_eq {r : RegIdx} {n : BitVec 6} (h : n.toNat = r.toNat) : dataPort r = n := by
  unfold dataPort
  bv_omega

theorem controlPort_eq {r : RegIdx} {n : BitVec 6} (h : n.toNat = 32 + r.toNat) :
    controlPort r = n := by
  unfold controlPort
  bv_omega

/-- Settles O50: every instruction that needs the GTE makes the one test first, and every word of the
three opcodes is such an instruction. -/
theorem gteUnusableTraps : Obligations.GteUnusableTraps := by
  unfold Obligations.GteUnusableTraps
  intro s hs
  refine ⟨fun i hi => traps_gte_of_unusable hi hs, fun w hop => traps_gte_of_unusable ?_ hs⟩
  simp only [List.mem_cons, List.not_mem_nil, or_false] at hop
  obtain hop | hop | hop := hop
  · exact needsGte_decode_cop2 hop
  · rw [lwc2_immediateRow w hop]
    rfl
  · rw [swc2_immediateRow w hop]
    rfl

end Sys2Proof.Machine
end

section
/-! ### The moves between the CPU and the GTE -/

namespace Sys2Proof.Machine

/-- Settles O47: the port read of each number, queued. -/
theorem movesFromGte : Obligations.MovesFromGte := by
  unfold Obligations.MovesFromGte
  iterate 2
    refine ⟨moveRow_of_decodeCop2 rfl fun w hop h => by simp [decodeCop2, hop, h], ?_⟩
  refine ⟨fun rt rd n m s hs hn hm => ?usable, fun rt rd s hs => ?unusable⟩
  case usable =>
    rw [← dataPort_eq hn, ← controlPort_eq hm]
    exact ⟨⟨_, if_pos hs, delayedWrite_move _ _ _⟩, ⟨_, if_pos hs, delayedWrite_move _ _ _⟩⟩
  case unusable => exact ⟨traps_gte_of_unusable rfl hs, traps_gte_of_unusable rfl hs⟩

/-- Settles O48: the port write of each number, done at once. -/
theorem movesToGte : Obligations.MovesToGte := by
  unfold Obligations.MovesToGte
  iterate 2
    refine ⟨moveRow_of_decodeCop2 rfl fun w hop h => by simp [decodeCop2, hop, h], ?_⟩
  refine ⟨fun rt rd n m s hs hn hm => ?usable, fun rt rd s hs => ?unusable⟩
  case usable =>
    rw [← dataPort_eq hn, ← controlPort_eq hm]
    exact ⟨⟨_, if_pos hs, rfl, rfl⟩, ⟨_, if_pos hs, rfl, rfl⟩⟩
  case unusable => exact ⟨traps_gte_of_unusable rfl hs, traps_gte_of_unusable rfl hs⟩

end Sys2Proof.Machine
end

section
/-! ### LWC2 and SWC2 -/

namespace Sys2Proof.Machine

/-- Settles O49: each tests that the GTE is usable, then its address, and then moves one word. -/
theorem gteLoadStore : Obligations.GteLoadStore := by
  unfold Obligations.GteLoadStore
  refine ⟨lwc2_immediateRow, swc2_immediateRow,
    fun rs rt imm s hs => ⟨traps_gte_of_unusable rfl hs, traps_gte_of_unusable rfl hs⟩,
    fun rs rt imm n s hwf hs hn =>
      ⟨effectiveAddress_eq rs imm s, fun ha => ?aligned, fun ha => ?misaligned⟩⟩
  case aligned =>
    rw [← dataPort_eq hn]
    exact ⟨⟨_, exec_of_alignedWord (if_pos hs) ha, rfl⟩,
      ⟨_, exec_of_alignedWord (if_pos hs) ha, storesBytes_busWriteWord hwf _ _⟩⟩
  case misaligned =>
    exact ⟨traps_of_misalignedWord (e := .adel _) (if_pos hs) ha,
      traps_of_misalignedWord (e := .ades _) (if_pos hs) ha⟩

end Sys2Proof.Machine
end

section
/-! ### The leading bits of a word -/

namespace Sys2Proof.Machine

theorem leadingZeros_le (w v : Nat) : leadingZeros w v ≤ w := by
  induction w with
  | zero => exact Nat.le_refl _
  | succ w ih =>
    rw [leadingZeros]
    split <;> omega

/-- The bits counted are clear. -/
theorem testBit_of_lt_leadingZeros {w v j : Nat} (hj : j < leadingZeros w v) :
    v.testBit (w - 1 - j) = false := by
  induction w generalizing j with
  | zero => exact absurd hj (Nat.not_lt_zero _)
  | succ w ih =>
    rw [leadingZeros] at hj
    split at hj
    · omega
    · next hclear =>
      cases j with
      | zero => simpa using hclear
      | succ j =>
        have h := ih (j := j) (by omega)
        rwa [show w + 1 - 1 - (j + 1) = w - 1 - j by omega]

/-- The bit after those counted is set. -/
theorem testBit_leadingZeros {w v : Nat} (h : leadingZeros w v < w) :
    v.testBit (w - 1 - leadingZeros w v) = true := by
  induction w with
  | zero => exact absurd h (Nat.not_lt_zero _)
  | succ w ih =>
    rw [leadingZeros] at h ⊢
    split at h
    · next hset => simp [hset]
    · next hclear =>
      rw [if_neg hclear, show w + 1 - 1 - (1 + leadingZeros w v) = w - 1 - leadingZeros w v by omega]
      exact ih (by omega)

/-- The word whose leading zeros number 31 counts. -/
def signDifference (v : Word) : Word := if v.getLsbD 31 then ~~~v else v

theorem leadingSigns_eq (v : Word) :
    leadingSigns v = BitVec.ofNat 32 (leadingZeros 32 (signDifference v).toNat) := rfl

/-- A bit of it is set where the word differs from its sign. -/
theorem getLsbD_signDifference (v : Word) {j : Nat} (hj : j < 32) :
    (signDifference v).getLsbD j = (v.getLsbD j != v.getLsbD 31) := by
  unfold signDifference
  cases v.getLsbD 31 <;> simp [hj]

/-- Number 31 counts the leading bits of LZCS equal to its sign (R364). -/
theorem leadingSigns_spec (v : Word) : ∃ k, 1 ≤ k ∧ k ≤ 32 ∧ (leadingSigns v).toNat = k ∧
    (∀ j < k, v.getLsbD (31 - j) = v.getLsbD 31) ∧
    (k < 32 → v.getLsbD (31 - k) ≠ v.getLsbD 31) := by
  have hle := leadingZeros_le 32 (signDifference v).toNat
  have hsame : ∀ j < leadingZeros 32 (signDifference v).toNat,
      v.getLsbD (31 - j) = v.getLsbD 31 := by
    intro j hj
    have h := testBit_of_lt_leadingZeros hj
    rw [BitVec.testBit_toNat, getLsbD_signDifference _ (by omega)] at h
    simpa using h
  have hdiffers : leadingZeros 32 (signDifference v).toNat < 32 →
      v.getLsbD (31 - leadingZeros 32 (signDifference v).toNat) ≠ v.getLsbD 31 := by
    intro hk
    have h := testBit_leadingZeros hk
    rw [BitVec.testBit_toNat, getLsbD_signDifference _ (by omega)] at h
    simpa using h
  rw [leadingSigns_eq]
  generalize leadingZeros 32 _ = k at hle hsame hdiffers ⊢
  have hpos : k ≠ 0 := by
    rintro rfl
    exact hdiffers (by decide) rfl
  exact ⟨k, Nat.one_le_iff_ne_zero.mpr hpos, hle, Nat.mod_eq_of_lt (by omega), hsame,
    hdiffers⟩

end Sys2Proof.Machine
end

section
/-! ### The packed colour -/

namespace Sys2Proof.Machine

theorem toNat_packedComponent (ir : Half) : (packedComponent ir).toNat = packedFrom ir := by
  have h : ir.toInt >>> (7 : Int) = ir.toInt / 2 ^ 7 :=
    (Int.shiftRight_natCast_right _ 7).trans (shiftRight_eq_div _ 7)
  rw [packedComponent, BitVec.toNat_ofInt, clamp, h, packedFrom]
  omega

theorem toNat_append_add {m n : Nat} (x : BitVec m) (y : BitVec n) :
    (x ++ y).toNat = x.toNat * 2 ^ n + y.toNat := by
  rw [BitVec.toNat_append, ← Nat.shiftLeft_add_eq_or_of_lt y.isLt, Nat.shiftLeft_eq]

/-- The three fields of a packed word, side by side. -/
theorem toNat_place_or_place_or_place (a b c : BitVec 5) :
    (place 0 a ||| place 5 b ||| place 10 c).toNat =
      a.toNat + b.toNat * 2 ^ 5 + c.toNat * 2 ^ 10 := by
  have hlow : place 0 a = a.setWidth 32 := BitVec.shiftLeft_zero _
  have happend : place 0 a ||| place 5 b ||| place 10 c = (c ++ b ++ a).setWidth 32 := by
    rw [BitVec.setWidth_append_append_eq_shiftLeft_setWidth_or, BitVec.or_comm,
      BitVec.or_comm (place 0 a), ← BitVec.or_assoc, hlow]
    rfl
  rw [happend, BitVec.toNat_setWidth_of_le (by decide), toNat_append_add, toNat_append_add]
  omega

theorem Gte.toNat_packedColour (g : Gte) : g.packedColour.toNat =
    packedFrom g.ir1 + packedFrom g.ir2 * 2 ^ 5 + packedFrom g.ir3 * 2 ^ 10 := by
  simp only [Gte.packedColour, toNat_place_or_place_or_place, toNat_packedComponent]

theorem toNat_unpackedComponent (lo : Nat) (v : Word) :
    (unpackedComponent lo v).toNat = v.toNat / 2 ^ lo % 2 ^ 5 * 2 ^ 7 := by
  rw [unpackedComponent, BitVec.toNat_shiftLeft, BitVec.toNat_setWidth_of_le (by decide),
    BitVec.extractLsb'_toNat, Nat.shiftRight_eq_div_pow, Nat.shiftLeft_eq]
  omega

theorem toInt_unpackedComponent (lo : Nat) (v : Word) :
    (unpackedComponent lo v).toInt = (v.toNat / 2 ^ lo % 2 ^ 5 * 2 ^ 7 : Nat) := by
  have h := toNat_unpackedComponent lo v
  rw [BitVec.toInt_eq_toNat_of_lt (by omega), h]

theorem toNat_signExtend_unpackedComponent (lo : Nat) (v : Word) :
    ((unpackedComponent lo v).signExtend 32).toNat = v.toNat / 2 ^ lo % 2 ^ 5 * 2 ^ 7 := by
  have h := toNat_unpackedComponent lo v
  have hmsb : (unpackedComponent lo v).msb = false :=
    BitVec.msb_eq_false_iff_two_mul_lt.mpr (by omega)
  rw [BitVec.signExtend_eq_setWidth_of_msb_false hmsb, BitVec.toNat_setWidth_of_le (by decide), h]

theorem packedFrom_unpackedComponent (lo : Nat) (v : Word) :
    packedFrom (unpackedComponent lo v) = v.toNat / 2 ^ lo % 2 ^ 5 := by
  rw [packedFrom, toInt_unpackedComponent]
  omega

end Sys2Proof.Machine
end

section
/-! ### FLAG through the port -/

namespace Sys2Proof.Machine

/-- A word written to FLAG and read back (R371). -/
theorem flagRead_flagWritten (v : Word) : flagRead (flagWritten v) =
    (v &&& flagStored) ||| (if v &&& flagErrors = 0 then 0 else 0x80000000#32) := by
  have hstored : flagStored &&& flagStored = flagStored := by decide
  have herrors : flagStored &&& flagErrors = flagErrors := by decide
  rw [flagRead, flagWritten, BitVec.and_assoc, BitVec.and_assoc, hstored, herrors]

theorem getLsbD_flagRead_flagWritten (v : Word) : ∀ k < 31,
    (flagRead (flagWritten v)).getLsbD k = (decide (12 ≤ k) && v.getLsbD k) := by
  have hstored : ∀ k < 31, flagStored.getLsbD k = decide (12 ≤ k) := by decide
  have hsummary : ∀ k < 31, (0x80000000#32).getLsbD k = false := by decide
  intro k hk
  rw [flagRead_flagWritten, BitVec.getLsbD_or, BitVec.getLsbD_and, hstored k hk]
  split <;> simp [hsummary k hk, Bool.and_comm]

theorem extractLsb'_flagRead_flagWritten_low (v : Word) :
    (flagRead (flagWritten v)).extractLsb' 0 12 = 0 := by
  apply BitVec.eq_of_getLsbD_eq
  intro k hk
  rw [BitVec.getLsbD_extractLsb', getLsbD_flagRead_flagWritten v _ (by omega)]
  simp [hk]

theorem extractLsb'_flagRead_flagWritten_stored (v : Word) :
    (flagRead (flagWritten v)).extractLsb' 12 19 = v.extractLsb' 12 19 := by
  apply BitVec.eq_of_getLsbD_eq
  intro k hk
  rw [BitVec.getLsbD_extractLsb', BitVec.getLsbD_extractLsb',
    getLsbD_flagRead_flagWritten v _ (by omega)]
  simp

/-- Bit 31 tells whether an error bit is set. -/
theorem getLsbD_flagRead_flagWritten_summary (v : Word) :
    (flagRead (flagWritten v)).getLsbD 31 = true ↔
      ∃ k, (23 ≤ k ∧ k ≤ 30 ∨ 13 ≤ k ∧ k ≤ 18) ∧ v.getLsbD k = true := by
  have herrors : ∀ k < 32, flagErrors.getLsbD k =
      decide (23 ≤ k ∧ k ≤ 30 ∨ 13 ≤ k ∧ k ≤ 18) := by decide
  have hsummary : (flagRead (flagWritten v)).getLsbD 31 = true ↔ v &&& flagErrors ≠ 0 := by
    rw [flagRead_flagWritten]
    split
    · simp [flagStored, *]
    · simpa [flagStored]
  rw [hsummary]
  constructor
  · intro h
    by_contra hnone
    refine h (BitVec.eq_of_getLsbD_eq fun k hk => ?_)
    rw [BitVec.getLsbD_and, herrors k hk]
    refine (Bool.eq_false_iff.mpr fun hboth => ?_).trans BitVec.getLsbD_zero.symm
    obtain ⟨hv, herror⟩ := Bool.and_eq_true_iff.mp hboth
    exact hnone ⟨k, of_decide_eq_true herror, hv⟩
  · rintro ⟨k, hk, hv⟩ h
    have hbit := congrArg (BitVec.getLsbD · k) h
    simp [herrors k (by omega), hk, hv] at hbit

end Sys2Proof.Machine
end

section
/-! ### The GTE's port: what is read back -/

namespace Sys2Proof.Machine

theorem pack_eq_append (lo hi : Half) : pack lo hi = hi ++ lo := by
  rw [pack, BitVec.or_comm, place, place, BitVec.shiftLeft_zero,
    ← BitVec.setWidth_append_eq_shiftLeft_setWidth_or, BitVec.setWidth_eq]

theorem pack_halves (v : Word) : pack (lowHalf v) (highHalf v) = v :=
  (pack_eq_append _ _).trans BitVec.extractLsb'_append_extractLsb'

/-- What holds of the numbers of a list holds of a port number in it. -/
theorem port_of_mem {P : BitVec 6 → Prop} {ks : List Nat} (h : ∀ k ∈ ks, P (BitVec.ofNat 6 k))
    {n : BitVec 6} (hn : n.toNat ∈ ks) : P n := by
  simpa using h _ hn

/-- The numbers that hold one whole word. -/
def wordPorts : List Nat :=
  [6, 20, 21, 22, 23, 24, 25, 26, 27, 30, 37, 38, 39, 45, 46, 47, 53, 54, 55, 56, 57, 60]

/-- The numbers that hold two halves. -/
def pairPorts : List Nat :=
  [0, 2, 4, 12, 13, 14, 15, 32, 33, 34, 35, 40, 41, 42, 43, 48, 49, 50, 51]

/-- These are the numbers R372 gives no row of their own. -/
theorem mem_wordPorts_or_mem_pairPorts : ∀ n : BitVec 6,
    n.toNat ∉ [1, 3, 5, 7, 8, 9, 10, 11, 16, 17, 18, 19, 28, 29, 31, 36, 44, 52, 58, 59, 61, 62, 63] →
      n.toNat ∈ wordPorts ∨ n.toNat ∈ pairPorts := by decide

/-- The numbers that hold one half, signed, or sign-extended as R368 has number 58. -/
def signedPorts : List Nat := [1, 3, 5, 8, 9, 10, 11, 36, 44, 52, 58, 59, 61, 62]

/-- The numbers that hold one half, unsigned. -/
def unsignedPorts : List Nat := [7, 16, 17, 18, 19]

section
variable (p : Bool) {n : BitVec 6} (v : Word) (g : Gte)

theorem Gte.portRead_portWrite_word (hn : n.toNat ∈ wordPorts) :
    (g.portWrite p n v).portRead n = v := by
  refine port_of_mem (P := fun n => (g.portWrite p n v).portRead n = _) (fun k hk => ?_) hn
  fin_cases hk <;> rfl

theorem Gte.portRead_portWrite_pair (hn : n.toNat ∈ pairPorts) :
    (g.portWrite p n v).portRead n = v := by
  refine port_of_mem (P := fun n => (g.portWrite p n v).portRead n = _) (fun k hk => ?_) hn
  cases p <;> fin_cases hk <;> exact pack_halves v

theorem Gte.portRead_portWrite_signed (hn : n.toNat ∈ signedPorts) :
    (g.portWrite p n v).portRead n = (lowHalf v).signExtend 32 := by
  refine port_of_mem (P := fun n => (g.portWrite p n v).portRead n = _) (fun k hk => ?_) hn
  fin_cases hk <;> rfl

theorem Gte.portRead_portWrite_unsigned (hn : n.toNat ∈ unsignedPorts) :
    (g.portWrite p n v).portRead n = (lowHalf v).setWidth 32 := by
  refine port_of_mem (P := fun n => (g.portWrite p n v).portRead n = _) (fun k hk => ?_) hn
  fin_cases hk <;> rfl

/-- The numbers that ignore a write. -/
theorem Gte.portWrite_readOnly (hn : n.toNat ∈ [29, 31]) : g.portWrite p n v = g := by
  refine port_of_mem (P := fun n => g.portWrite p n v = g) (fun k hk => ?_) hn
  fin_cases hk <;> rfl

/-- The numbers whose write moves the screen FIFO (R352, R353). -/
theorem Gte.portWrite_pushes (hn : n.toNat = 15 ∨ n.toNat = 14 ∧ p = true) :
    g.portWrite p n v = g.portPushSxy v := by
  obtain hn | ⟨hn, rfl⟩ := hn
  · obtain rfl : n = 15#6 := BitVec.eq_of_toNat_eq hn
    rfl
  · obtain rfl : n = 14#6 := BitVec.eq_of_toNat_eq hn
    rfl

end

section
variable (v : Word) (g : Gte)

/-- The table of R372, row by row. -/
theorem readBack_portWrite (p : Bool) (n : BitVec 6) :
    ReadBack n.toNat v (g.portRead n) ((g.portWrite p n v).portRead n) := by
  refine ⟨fun hn => ?signed, fun hn => ?unsigned, fun hn => ?packed, fun hn => ?readOnly,
    fun hn => ?flag, fun hn => ?whole⟩
  case signed =>
    rw [g.portRead_portWrite_signed p v hn, BitVec.toInt_signExtend_of_le (by decide)]
    rfl
  case unsigned =>
    rw [g.portRead_portWrite_unsigned p v hn, BitVec.toNat_setWidth_of_le (by decide)]
    rfl
  case packed =>
    obtain rfl : n = 28#6 := BitVec.eq_of_toNat_eq hn
    have hread : ((g.portWrite p 28#6 v).portRead 28#6).toNat =
        packedFrom (unpackedComponent 0 v) + packedFrom (unpackedComponent 5 v) * 2 ^ 5
          + packedFrom (unpackedComponent 10 v) * 2 ^ 10 := Gte.toNat_packedColour _
    simp only [hread, packedFrom_unpackedComponent]
    omega
  case readOnly => rw [g.portWrite_readOnly p v hn]
  case flag =>
    obtain rfl : n = 63#6 := BitVec.eq_of_toNat_eq hn
    have hread : (g.portWrite p 63#6 v).portRead 63#6 = flagRead (flagWritten v) := rfl
    rw [hread]
    exact ⟨extractLsb'_flagRead_flagWritten_low v, extractLsb'_flagRead_flagWritten_stored v,
      getLsbD_flagRead_flagWritten_summary v⟩
  case whole =>
    exact (mem_wordPorts_or_mem_pairPorts n hn).elim (g.portRead_portWrite_word p v)
      (g.portRead_portWrite_pair p v)

/-- The reads without storage of their own (R353, R361, R364). -/
theorem derivedReads (g : Gte) : DerivedReads g :=
  ⟨rfl, rfl, g.toNat_packedColour, leadingSigns_spec g.lzcs⟩

end

end Sys2Proof.Machine
end

section
/-! ### The GTE's port: what a write leaves alone -/

namespace Sys2Proof.Machine

/-- What the 64 port numbers read, in order: the table of R340 to R371. -/
def Gte.portReads (g : Gte) : List Word :=
  [pack g.v0.x g.v0.y, g.v0.z.signExtend 32, pack g.v1.x g.v1.y, g.v1.z.signExtend 32,
   pack g.v2.x g.v2.y, g.v2.z.signExtend 32, g.rgbc, g.otz.setWidth 32,
   g.ir0.signExtend 32, g.ir1.signExtend 32, g.ir2.signExtend 32, g.ir3.signExtend 32,
   g.sxy0.toWord, g.sxy1.toWord, g.sxy2.toWord, g.sxy2.toWord,
   g.sz0.setWidth 32, g.sz1.setWidth 32, g.sz2.setWidth 32, g.sz3.setWidth 32,
   g.rgb0, g.rgb1, g.rgb2, g.res1, g.mac0, g.mac1, g.mac2, g.mac3,
   g.packedColour, g.packedColour, g.lzcs, leadingSigns g.lzcs,
   g.rt.portRead 0, g.rt.portRead 1, g.rt.portRead 2, g.rt.portRead 3, g.rt.portRead 4,
   g.tr.x, g.tr.y, g.tr.z,
   g.llm.portRead 0, g.llm.portRead 1, g.llm.portRead 2, g.llm.portRead 3, g.llm.portRead 4,
   g.bk.x, g.bk.y, g.bk.z,
   g.lcm.portRead 0, g.lcm.portRead 1, g.lcm.portRead 2, g.lcm.portRead 3, g.lcm.portRead 4,
   g.fc.x, g.fc.y, g.fc.z, g.ofx, g.ofy, g.h.signExtend 32, g.dqa.signExtend 32, g.dqb,
   g.zsf3.signExtend 32, g.zsf4.signExtend 32, flagRead g.flag]

theorem Gte.portReads_getElem? (m : BitVec 6) (g : Gte) :
    g.portReads[m.toNat]? = some (g.portRead m) := by
  obtain ⟨k, hk⟩ := m
  interval_cases k <;> rfl

/-- A list of reads with the entries numbered `ks` set to 0. -/
def blank (ks : List Nat) (l : List Word) : List Word := ks.foldl (fun l k => l.set k 0) l

theorem getElem?_blank_of_notMem {ks : List Nat} {k : Nat} (hk : k ∉ ks) (l : List Word) :
    (blank ks l)[k]? = l[k]? := by
  induction ks generalizing l with
  | nil => rfl
  | cons j ks ih =>
    obtain ⟨hj, hks⟩ := List.ne_and_not_mem_of_not_mem_cons hk
    exact (ih hks _).trans (List.getElem?_set_ne hj.symm)

/-- A write leaves the table as it was but for the entries it touches. -/
theorem Gte.blank_portReads (p : Bool) (n : BitVec 6) (v : Word) (g : Gte) :
    blank (portTouched p n.toNat) (g.portWrite p n v).portReads =
      blank (portTouched p n.toNat) g.portReads := by
  have hlast : (∀ k < 63, n ≠ BitVec.ofNat 6 k) → n = 63#6 := by
    revert n
    decide
  unfold Gte.portWrite
  split
  case' h_15 => cases p
  case' h_64 => obtain rfl := hlast fun k hk => by interval_cases k <;> assumption
  all_goals
    simp [Gte.portPushSxy, Mat16.portWrite, portTouched, blank, Gte.portReads, Gte.packedColour,
      Mat16.portRead]

/-- A write changes the read of no number it does not touch. -/
theorem Gte.portRead_portWrite_of_notMem {p : Bool} {n m : BitVec 6} (v : Word) (g : Gte)
    (hm : m.toNat ∉ portTouched p n.toNat) : (g.portWrite p n v).portRead m = g.portRead m := by
  apply Option.some_injective
  rw [← Gte.portReads_getElem?, ← Gte.portReads_getElem?, ← getElem?_blank_of_notMem hm,
    Gte.blank_portReads, getElem?_blank_of_notMem hm]

/-- What a write does to other numbers: it pushes, unpacks, or leaves them alone. -/
theorem portEffects_portWrite (p : Bool) (n : BitVec 6) (v : Word) (g : Gte) :
    PortEffects p n.toNat v g (g.portWrite p n v) := by
  refine ⟨fun hn => ?pushes, fun hn hp => ?newest, fun hn => ?unpacks,
    fun hn => g.portWrite_readOnly p v hn, fun _ hm => g.portRead_portWrite_of_notMem v hm⟩
  case pushes =>
    rw [g.portWrite_pushes p v hn]
    exact ⟨rfl, rfl, pack_halves v, pack_halves v⟩
  case newest =>
    obtain rfl : n = 14#6 := BitVec.eq_of_toNat_eq hn
    subst hp
    exact pack_halves v
  case unpacks =>
    obtain rfl : n = 28#6 := BitVec.eq_of_toNat_eq hn
    refine ⟨?_, toNat_signExtend_unpackedComponent 5 v, toNat_signExtend_unpackedComponent 10 v⟩
    exact (toNat_signExtend_unpackedComponent 0 v).trans (by rw [pow_zero, Nat.div_one])

/-- Settles O51: the table, the effects, and what is derived. -/
theorem portReadBack : Obligations.PortReadBack := by
  unfold Obligations.PortReadBack
  intro p n v g
  exact ⟨readBack_portWrite v g p n, portEffects_portWrite p n v g, derivedReads g⟩

end Sys2Proof.Machine
end

section
/-! ### The divider -/

namespace Sys2Proof.Machine

/-! The shift that brings a divisor to its leading bit -/

/-- A value shifted up by its leading zeros stays inside its width. -/
theorem mul_two_pow_leadingZeros_lt {w v : Nat} (hv : v < 2 ^ w) : v * 2 ^ leadingZeros w v < 2 ^ w := by
  induction w with
  | zero => simpa [leadingZeros] using hv
  | succ w ih =>
    rw [leadingZeros]
    split
    · simpa using hv
    · next hclear =>
      have hlow : v < 2 ^ w := by
        by_contra hge
        exact hclear (Nat.testBit_of_two_pow_le_and_two_pow_add_one_gt (by omega) hv)
      calc v * 2 ^ (1 + leadingZeros w v) = v * 2 ^ leadingZeros w v * 2 := by ring
        _ < 2 ^ w * 2 := Nat.mul_lt_mul_of_pos_right (ih hlow) (by decide)
        _ = 2 ^ (w + 1) := (Nat.pow_succ ..).symm

/-- A value that is not 0, shifted up by its leading zeros, has its top bit set. -/
theorem two_pow_le_mul_two_pow_leadingZeros {w v : Nat} (hpos : 0 < v) (hv : v < 2 ^ (w + 1)) :
    2 ^ w ≤ v * 2 ^ leadingZeros (w + 1) v := by
  have hlt : leadingZeros (w + 1) v < w + 1 := by
    by_contra hall
    have hz : leadingZeros (w + 1) v = w + 1 := by
      have := leadingZeros_le (w + 1) v
      omega
    have h := mul_two_pow_leadingZeros_lt hv
    rw [hz] at h
    have := Nat.le_mul_of_pos_left (2 ^ (w + 1)) hpos
    omega
  have hset := Nat.ge_two_pow_of_testBit (testBit_leadingZeros hlt)
  calc 2 ^ w = 2 ^ (w + 1 - 1 - leadingZeros (w + 1) v) * 2 ^ leadingZeros (w + 1) v := by
        rw [← Nat.pow_add]
        congr 1
        omega
    _ ≤ v * 2 ^ leadingZeros (w + 1) v := Nat.mul_le_mul_right _ hset

/-- At most one shift brings a value to its leading bit. -/
theorem shift_unique {w v y z : Nat} (hy : 2 ^ w ≤ v * 2 ^ y) (hy' : v * 2 ^ y < 2 ^ (w + 1))
    (hz : 2 ^ w ≤ v * 2 ^ z) (hz' : v * 2 ^ z < 2 ^ (w + 1)) : y = z := by
  have key : ∀ {a b : Nat}, 2 ^ w ≤ v * 2 ^ a → v * 2 ^ b < 2 ^ (w + 1) → b ≤ a := by
    intro a b ha hb
    by_contra hlt
    have hmore : v * 2 ^ (a + 1) ≤ v * 2 ^ b :=
      Nat.mul_le_mul_left _ (Nat.pow_le_pow_right (by decide) (by omega))
    rw [Nat.pow_succ, ← Nat.mul_assoc] at hmore
    rw [Nat.pow_succ] at hb
    omega
  exact Nat.le_antisymm (key hz hy') (key hy hz')

/-! The table -/

/-- The entries of the table are bytes (R421). -/
theorem unr_le (k : Nat) : unr k ≤ 0xFF := by
  have h : 0x40000 / (k + 0x100) ≤ 0x40000 / 0x100 := Nat.div_le_div_left (by omega) (by decide)
  unfold unr
  omega

/-- The formula of the table in integers (R421). -/
theorem unr_cast (k : Nat) :
    (unr k : Int) = max 0 ((0x40000 / ((k : Int) + 0x100) + 1) / 2 - 0x101) := by
  have h : ((0x40000 / (k + 0x100) : Nat) : Int) = 0x40000 / ((k : Int) + 0x100) :=
    Int.natCast_ediv _ _
  rw [← h]
  unfold unr
  generalize 0x40000 / (k + 0x100) = q
  omega

/-! The table path, and the two outcomes of `Divide` -/

/-- The value of the table path in integers: its subtractions are of a smaller value (R420). -/
theorem divideTable_cast {n d z : Nat} (hz : leadingZeros 16 d = z) {d1 i u t r : Int}
    (hd1 : d1 = d * 2 ^ z) (hlow : 2 ^ 15 ≤ d1) (hhigh : d1 < 2 ^ 16) (hi : i = (d1 - 0x7FC0) / 2 ^ 7)
    (hu : u = max 0 ((0x40000 / (i + 0x100) + 1) / 2 - 0x101) + 0x101)
    (ht : t = (0x2000080 - d1 * u) / 2 ^ 8) (hr : r = (0x80 + t * u) / 2 ^ 8) :
    (divideTable n d : Int) = (n * 2 ^ z * r + 0x8000) / 2 ^ 16 := by
  have hD : ((d * 2 ^ z : Nat) : Int) = d1 := by rw [hd1]; push_cast; rfl
  simp only [divideTable, hz]
  generalize d * 2 ^ z = D at hD
  have hI : (((D - 0x7FC0) / 2 ^ 7 : Nat) : Int) = i := by omega
  have hU : ((unr ((D - 0x7FC0) / 2 ^ 7) + 0x101 : Nat) : Int) = u := by
    rw [hu, ← hI, Nat.cast_add, unr_cast]
    rfl
  have hUle : unr ((D - 0x7FC0) / 2 ^ 7) + 0x101 ≤ 0x200 := by
    have := unr_le ((D - 0x7FC0) / 2 ^ 7)
    omega
  generalize unr ((D - 0x7FC0) / 2 ^ 7) + 0x101 = U at hU hUle
  have hDU : D * U ≤ 0x2000080 := (Nat.mul_le_mul (show D ≤ 0xFFFF by omega) hUle).trans (by decide)
  have hT : (((0x2000080 - D * U) / 2 ^ 8 : Nat) : Int) = t := by
    rw [ht, ← hD, ← hU]
    push_cast [hDU]
    rfl
  rw [hr, ← hT, ← hU]
  push_cast
  rfl

section
variable {p : Bool} {n d : Nat}

/-- The short cut (R420). -/
theorem divide_of_ge (h : 2 * d ≤ n) : divide p n d = (0x1FFFF, true) := if_pos h

/-- The table path saturates (R420). -/
theorem divide_fst_of_lt (h : n < 2 * d) : (divide p n d).1 = min (divideTable n d) 0x1FFFF := by
  rw [divide, if_neg (by omega)]
  split
  · exact (Nat.min_eq_right (by omega)).symm
  · exact (Nat.min_eq_left (by omega)).symm

/-- The table path sets the flag where it saturates and the parameter says so (R420). -/
theorem divide_snd_of_lt (h : n < 2 * d) :
    (divide p n d).2 = true ↔ p = true ∧ 0x1FFFF < divideTable n d := by
  rw [divide, if_neg (by omega)]
  split
  · next hsat => exact (and_iff_left hsat).symm
  · next hsat => exact iff_of_false Bool.false_ne_true fun hp => hsat hp.2

theorem divide_fst_le : (divide p n d).1 ≤ 0x1FFFF := by
  by_cases h : 2 * d ≤ n
  · rw [divide_of_ge h]
  · exact (divide_fst_of_lt (by omega)).trans_le (Nat.min_le_right _ _)

end

/-- Settles O60: the leading bit of a divisor fixes the shift and bounds the index, and the table path is
then the formula of R420. -/
theorem dividerBounds : Obligations.DividerBounds := by
  unfold Obligations.DividerBounds
  intro p n d _ hd
  have hlow (h : n < 2 * d) : 2 ^ 15 ≤ d * 2 ^ leadingZeros 16 d :=
    two_pow_le_mul_two_pow_leadingZeros (by omega) hd
  have hhigh : d * 2 ^ leadingZeros 16 d < 2 ^ 16 := mul_two_pow_leadingZeros_lt hd
  refine ⟨divide_of_ge, divide_fst_le, fun h => ⟨hhigh, hlow h, by omega, divide_snd_of_lt h⟩,
    fun k _ => unr_le k, ?_⟩
  intro z d1 i u t r h hd1 h1 h2 hi hu ht hr
  have hz : leadingZeros 16 d = z := by
    rw [hd1] at h1 h2
    exact shift_unique (w := 15) (hlow h) hhigh (by exact_mod_cast h1) (by exact_mod_cast h2)
  rw [divide_fst_of_lt h, Nat.cast_min, divideTable_cast hz hd1 h1 h2 hi hu ht hr]
  rfl

end Sys2Proof.Machine
end

section
/-! ### The flags of the lanes, one lane at a time -/

namespace Sys2Proof.Machine

/-- The flags of the 44-bit check of a lane (R404). -/
def laneMacFlags (l : Lane) (x : Int) : List (Nat × Prop) :=
  [(31 - l.number, x > 2 ^ 43 - 1), (28 - l.number, x < -2 ^ 43)]

/-- The flag of limA for a lane (R410). -/
def laneIrFlags (l : Lane) (lm : Bool) (w : Int) : List (Nat × Prop) :=
  [(25 - l.number, Outside (if lm then 0 else -0x8000) 0x7FFF w)]

theorem flagged_macFlags (x1 x2 x3 : Int) (k : Nat) : Flagged (macFlags x1 x2 x3) k ↔
    Flagged (laneMacFlags .one x1 ++ laneMacFlags .two x2 ++ laneMacFlags .three x3) k := by
  simp only [macFlags, laneMacFlags, Lane.number, flagged_append, flagged_cons, flagged_nil, or_false,
    Nat.reduceSub]
  exact iff_of_eq (by ac_rfl)

theorem irFlags_eq (lm : Bool) (g : Gte) : irFlags lm g = laneIrFlags .one lm g.mac1.toInt ++
    laneIrFlags .two lm g.mac2.toInt ++ laneIrFlags .three lm g.mac3.toInt := rfl

theorem signedIrFlags_eq (w1 w2 w3 : Int) : signedIrFlags w1 w2 w3 =
    laneIrFlags .one false w1 ++ laneIrFlags .two false w2 ++ laneIrFlags .three false w3 := rfl

/-- A loop raises the flags of its three rounds. -/
theorem Gte.flagAdds_forLanes {f : Lane → Gte → Gte} {bits : Lane → List (Nat × Prop)}
    (hf : ∀ l g, Gte.FlagAdds (bits l) g (f l g)) (g : Gte) :
    Gte.FlagAdds (bits .one ++ bits .two ++ bits .three) g (g.forLanes f) :=
  ((hf .one g).trans (hf .two _)).trans (hf .three _)

/-- A store of a value inside the accumulator raises the flag of its limiter alone. -/
theorem Gte.flagAdds_setMacIr_of_fits {x : Int} (hx : Fits44 x) (l : Lane) (s : Nat) (lm : Bool)
    (g : Gte) : Gte.FlagAdds (laneIrFlags l lm (BitVec.ofInt 32 (x / 2 ^ s)).toInt) g
      (g.setMacIr l x s lm) := by
  rw [Gte.setMacIr, Gte.setMac, Gte.checkMac_of_fits hx, shiftRight_eq_div]
  exact (g.putMac l _).flagAdds_flagA l lm _

/-- The flags of a command are those it raises after FLAG is cleared (R66, R450). -/
theorem Gte.FlagAdds.flagIs {bits : List (Nat × Prop)} {g h : Gte} (hgh : Gte.FlagAdds bits g h)
    (hg : g.flag = 0) : FlagIs bits h := by
  intro k
  rw [hgh k, hg]
  simp [Flagged]

end Sys2Proof.Machine
end

section
/-! ### The matrix product -/

namespace Sys2Proof.Machine

/-! One row -/

/-- The accumulator keeps the one value of 44 bits that is congruent to the sum (R404). -/
theorem Wraps44.wrap44_eq {x a : Int} (h : Wraps44 x a) : wrap44 x = a := by
  obtain ⟨⟨hlow, hhigh⟩, hmod⟩ := h
  unfold wrap44
  rw [BitVec.toInt_ofInt, Int.bmod_def]
  split <;> omega

theorem RowSum.rowValue_eq {t : Int} {m v : IVec} {a b x : Int} (h : RowSum t m v a b x) :
    rowValue (some t) m v = x := by
  rw [rowValue, shl, h.first.wrap44_eq, h.second.wrap44_eq, h.third]

/-- The flags of the first two partial sums of a row (R425). -/
theorem RowSum.flagAdds_checkRow {t : Int} {m v : IVec} {a b x : Int} (h : RowSum t m v a b x)
    (l : Lane) (g : Gte) : Gte.FlagAdds (laneMacFlags l (t * 2 ^ 12 + m.x * v.x) ++
      laneMacFlags l (a + m.y * v.y)) g (g.checkRow l (some t) m v) := by
  rw [Gte.checkRow, shl, h.first.wrap44_eq]
  exact (g.flagAdds_checkMac l _).trans (Gte.flagAdds_checkMac l _ _)

/-- The flags of a row: its three sums, and its word (R404, R405, R410, R425). -/
theorem RowSum.flagAdds_row {t : Int} {m v : IVec} {a b x : Int} (h : RowSum t m v a b x) (l : Lane)
    (sh : Nat) (lm : Bool) (g : Gte) : Gte.FlagAdds (laneMacFlags l (t * 2 ^ 12 + m.x * v.x) ++
      laneMacFlags l (a + m.y * v.y) ++
      (laneMacFlags l x ++ laneIrFlags l lm (BitVec.ofInt 32 (x / 2 ^ sh)).toInt)) g
    ((g.checkRow l (some t) m v).setMacIr l x sh lm) :=
  (h.flagAdds_checkRow l g).trans (Gte.flagAdds_setMacIr l x sh lm _)

theorem RowSums.row {r1 r2 r3 v t a b x : IVec} (h : RowSums r1 r2 r3 v t a b x) (l : Lane) :
    RowSum (t.at l) (IMat.row l ⟨r1, r2, r3⟩) v (a.at l) (b.at l) (x.at l) := by
  cases l with
  | one => exact h.lane1
  | two => exact h.lane2
  | three => exact h.lane3

/-! The three rows -/

section
variable {r1 r2 r3 v w a b x : IVec} (h : RowSums r1 r2 r3 v w a b x) (sh : Nat) (lm : Bool) (g : Gte)
include h

/-- A product whose partial sums are known stores the third sum of each row (R425). -/
theorem RowSums.mulMat_eq : g.mulMat ⟨r1, r2, r3⟩ (some w) v sh lm = g.forLanes fun l g =>
    (g.checkRow l (some (w.at l)) (IMat.row l ⟨r1, r2, r3⟩) v).setMacIr l (x.at l) sh lm := by
  unfold Gte.mulMat
  congr
  funext l k
  rw [Option.map_some, (h.row l).rowValue_eq]

theorem RowSums.lanesAre_mulMat :
    LanesAre x.x x.y x.z sh lm (g.mulMat ⟨r1, r2, r3⟩ (some w) v sh lm) := by
  rw [h.mulMat_eq]
  exact ⟨laneIs_stored sh lm x.x, laneIs_stored sh lm x.y, laneIs_stored sh lm x.z⟩

/-- Every sum of a row that passes the accumulator is flagged, and each word past its limiter (R404, R410,
R425). -/
theorem RowSums.flagAdds_mulMat : Gte.FlagAdds
    (sumFlags r1 r2 r3 v w a x ++ irFlags lm (g.mulMat ⟨r1, r2, r3⟩ (some w) v sh lm)) g
    (g.mulMat ⟨r1, r2, r3⟩ (some w) v sh lm) := by
  obtain ⟨⟨h1, -⟩, ⟨h2, -⟩, ⟨h3, -⟩⟩ := h.lanesAre_mulMat sh lm g
  rw [irFlags_eq, h1, h2, h3, h.mulMat_eq]
  refine (Gte.flagAdds_forLanes (fun l k => (h.row l).flagAdds_row l sh lm k) g).congr fun k => ?_
  simp only [sumFlags, firstSumFlags, flagged_append, flagged_macFlags, IVec.at, IMat.row]
  exact iff_of_eq (by ac_rfl)

end

end Sys2Proof.Machine
end

section
/-! ### MVMVA -/

namespace Sys2Proof.Machine

/-! The operands -/

section
variable {mx : MatrixSel} {vx : VectorSel} {g : Gte}

@[simp] theorem Gte.selectMatrix_clearFlag : g.clearFlag.selectMatrix mx = g.selectMatrix mx := by
  cases mx <;> rfl

@[simp] theorem Gte.selectVector_clearFlag : g.clearFlag.selectVector vx = g.selectVector vx := by
  cases vx <;> rfl

theorem selectMatrix_of_selectsRows {r1 r2 r3 : IVec} (h : selectsRows mx g r1 r2 r3) :
    g.selectMatrix mx = ⟨r1, r2, r3⟩ := by
  cases mx with
  | rt | llm | lcm =>
    obtain ⟨rfl, rfl, rfl⟩ := h
    rfl
  | garbage =>
    obtain ⟨rfl, rfl, rfl⟩ := h
    have hred : shl (colours g.rgbc).x 4 = (g.rgbc.toNat % 256 : Nat) * 16 := by
      simp [shl, colours, byteAt]
    rw [Gte.selectMatrix, Gte.garbageMatrix, hred]

theorem selectVector_of_selectsVector {v : IVec} (h : selectsVector vx g v) :
    g.selectVector vx = v := by
  cases vx <;> exact h.symm

end

/-- The components are values of 16 bits. -/
def IVec.OfHalves (v : IVec) : Prop := ∃ a b c : Half, v = ⟨a.toInt, b.toInt, c.toInt⟩

theorem Mat16.ofHalves_row (m : Mat16) (l : Lane) : (m.toIMat.row l).OfHalves := by
  cases l <;> exact ⟨_, _, _, rfl⟩

/-- The garbage matrix too has entries of 16 bits: its products of red are below 2 ^ 12 (R455). -/
theorem Gte.ofHalves_selectMatrix (mx : MatrixSel) (g : Gte) (l : Lane) :
    ((g.selectMatrix mx).row l).OfHalves := by
  cases mx with
  | rt => exact g.rt.ofHalves_row l
  | llm => exact g.llm.ofHalves_row l
  | lcm => exact g.lcm.ofHalves_row l
  | garbage =>
    cases l with
    | one =>
      have hred := (byteAt 0 g.rgbc).isLt
      refine ⟨BitVec.ofInt 16 (-shl (colours g.rgbc).x 4), BitVec.ofInt 16 (shl (colours g.rgbc).x 4),
        g.ir0, ?_⟩
      rw [BitVec.toInt_ofInt_eq_self (by decide), BitVec.toInt_ofInt_eq_self (by decide)]
      · rfl
      all_goals
        simp only [shl, colours]
        omega
    | two | three => exact ⟨_, _, _, rfl⟩

theorem Gte.ofHalves_selectVector (vx : VectorSel) (g : Gte) : (g.selectVector vx).OfHalves := by
  cases vx <;> exact ⟨_, _, _, rfl⟩

/-- The last two products of a row of halves stay inside the accumulator, and so does their sum. -/
theorem IVec.OfHalves.fits44 {m v : IVec} (hm : m.OfHalves) (hv : v.OfHalves) :
    Fits44 (m.y * v.y) ∧ Fits44 (m.y * v.y + m.z * v.z) := by
  obtain ⟨_, my, mz, rfl⟩ := hm
  obtain ⟨_, vy, vz, rfl⟩ := hv
  have hy := half_mul_bounds my vy
  have hz := half_mul_bounds mz vz
  refine ⟨⟨?_, ?_⟩, ?_, ?_⟩ <;> dsimp only <;> omega

/-! The far colour -/

/-- Two loops are the same where their bodies agree on what the first can reach. -/
theorem Gte.forLanes_congr {f f' : Lane → Gte → Gte} {g : Gte} (hf : ∀ l k, Gte.OnlyLanes k (f l k))
    (h : ∀ l k, g.OnlyLanes k → f l k = f' l k) : g.forLanes f = g.forLanes f' := by
  have h1 := hf .one g
  have h2 := h1.trans (hf .two _)
  rw [Gte.forLanes, h .three _ h2, h .two _ h1, h .one g g.onlyLanes_refl]
  rfl

theorem rowDot_zero (b c : Int) (v : IVec) : rowDot 0 b c v = b * v.y + c * v.z := by
  rw [rowDot, zero_mul, zero_add]

/-- The last two products of each row, which MVMVA with the far colour stores (R455). -/
def farColourSums (m : IMat) (v : IVec) : IVec :=
  ⟨rowDot 0 m.r1.y m.r1.z v, rowDot 0 m.r2.y m.r2.z v, rowDot 0 m.r3.y m.r3.z v⟩

theorem farColourSums_at (m : IMat) (v : IVec) (l : Lane) :
    (farColourSums m v).at l = (m.row l).y * v.y + (m.row l).z * v.z := by
  cases l <;> exact rowDot_zero _ _ _

/-- What a row with the far colour does to the lane of its first sum `t`, kept as `b`, and its result `x`
(R455). -/
def Gte.farColourStore (l : Lane) (t b x : Int) (sh : Nat) (lm : Bool) (g : Gte) : Gte :=
  ((g.checkMac l t).setIr l (wrap32 (b >>> sh)) false).setMacIr l x sh lm

theorem Gte.flagAdds_farColourStore {x : Int} (hx : Fits44 x) (l : Lane) (t b : Int) (sh : Nat)
    (lm : Bool) (g : Gte) : Gte.FlagAdds (laneMacFlags l t
      ++ laneIrFlags l false (BitVec.ofInt 32 (b / 2 ^ sh)).toInt
      ++ laneIrFlags l lm (BitVec.ofInt 32 (x / 2 ^ sh)).toInt) g (g.farColourStore l t b x sh lm) := by
  rw [Gte.farColourStore, ← shiftRight_eq_div b]
  exact ((g.flagAdds_checkMac l t).trans ((g.checkMac l t).flagAdds_flagA l false _)).trans
    (Gte.flagAdds_setMacIr_of_fits hx l sh lm _)

section
variable {m : IMat} {v a : IVec} {g : Gte} (hm : ∀ l, (m.row l).OfHalves) (hv : v.OfHalves)
  (ha : ∀ l, Wraps44 (g.fc.toIVec.at l * 2 ^ 12 + (m.row l).x * v.x) (a.at l)) (sh : Nat) (lm : Bool)
include hm hv

theorem fits44_farColourSums (l : Lane) : Fits44 ((farColourSums m v).at l) := by
  rw [farColourSums_at]
  exact ((hm l).fits44 hv).2

include ha

/-- The far colour and the first product reach the limiter and FLAG alone (R455). -/
theorem forLanes_farColourRow : (g.forLanes fun l g => g.farColourRow l (m.row l) v sh lm) =
    g.forLanes fun l k => k.farColourStore l (g.fc.toIVec.at l * 2 ^ 12 + (m.row l).x * v.x) (a.at l)
      ((farColourSums m v).at l) sh lm := by
  refine Gte.forLanes_congr (fun l k => Gte.onlyLanes_farColourRow l _ v sh lm k) fun l k hk => ?_
  obtain ⟨hy, -⟩ := (hm l).fits44 hv
  have hfc : k.fc = g.fc := by
    obtain ⟨_, _, _, _, _, _, _, rfl⟩ := hk
    rfl
  rw [Gte.farColourRow, hfc, shl, (ha l).wrap44_eq, Gte.checkMac_of_fits hy, wrap44_of_fits hy,
    farColourSums_at]
  rfl

theorem lanesAre_farColour :
    LanesAre (rowDot 0 m.r1.y m.r1.z v) (rowDot 0 m.r2.y m.r2.z v) (rowDot 0 m.r3.y m.r3.z v) sh lm
      (g.forLanes fun l g => g.farColourRow l (m.row l) v sh lm) := by
  rw [forLanes_farColourRow hm hv ha]
  exact ⟨laneIs_stored sh lm _, laneIs_stored sh lm _, laneIs_stored sh lm _⟩

/-- The flags of the first sums, of their words, and of the words stored (R404, R410, R455). -/
theorem flagAdds_farColour : Gte.FlagAdds
    (firstSumFlags m.r1 m.r2 m.r3 v g.fc.toIVec
      ++ signedIrFlags (BitVec.ofInt 32 (a.x / 2 ^ sh)).toInt
        (BitVec.ofInt 32 (a.y / 2 ^ sh)).toInt (BitVec.ofInt 32 (a.z / 2 ^ sh)).toInt
      ++ irFlags lm (g.forLanes fun l g => g.farColourRow l (m.row l) v sh lm)) g
    (g.forLanes fun l g => g.farColourRow l (m.row l) v sh lm) := by
  obtain ⟨⟨h1, -⟩, ⟨h2, -⟩, ⟨h3, -⟩⟩ := lanesAre_farColour hm hv ha sh lm
  rw [irFlags_eq, h1, h2, h3, forLanes_farColourRow hm hv ha]
  refine (Gte.flagAdds_forLanes (fun l k => Gte.flagAdds_farColourStore (fits44_farColourSums hm hv l) l
    (g.fc.toIVec.at l * 2 ^ 12 + (m.row l).x * v.x) (a.at l) sh lm k) g).congr fun k => ?_
  simp only [firstSumFlags, signedIrFlags_eq, flagged_append, flagged_macFlags, IVec.at, IMat.row,
    farColourSums]
  exact iff_of_eq (by ac_rfl)

end

/-! The command -/

/-- Settles O55: a product whose sums are known stores them and flags each, and with the far colour the
last two products are stored, which fit. -/
theorem mvmvaResults : Obligations.MvmvaResults := by
  unfold Obligations.MvmvaResults
  intro s sf lm mx vx sh r1 r2 r3 v hu hsh hrows hv
  obtain rfl : sh = shiftOf sf := hsh
  have hmatrix : s.gte.clearFlag.selectMatrix mx = ⟨r1, r2, r3⟩ :=
    Gte.selectMatrix_clearFlag.trans (selectMatrix_of_selectsRows hrows)
  have hvector : s.gte.clearFlag.selectVector vx = v :=
    Gte.selectVector_clearFlag.trans (selectVector_of_selectsVector hv)
  constructor
  · intro tx w a b x htx hsums
    refine ⟨_, show execMvmva .. = _ from gteCommand_of_usable hu _, ?_⟩
    dsimp only
    have hproduct : s.gte.clearFlag.multiplyAdd mx vx tx (shiftOf sf) lm =
        s.gte.clearFlag.mulMat ⟨r1, r2, r3⟩ (some w) v (shiftOf sf) lm := by
      unfold Gte.multiplyAdd
      rw [hmatrix, hvector]
      rcases htx with ⟨rfl, rfl⟩ | ⟨rfl, rfl⟩ | ⟨rfl, rfl⟩ <;> rfl
    rw [hproduct]
    exact ⟨hsums.lanesAre_mulMat _ lm _, (hsums.flagAdds_mulMat _ lm _).flagIs rfl⟩
  · intro w a hw h1 h2 h3
    refine ⟨_, show execMvmva .. = _ from gteCommand_of_usable hu _, ?_⟩
    dsimp only
    have hm (l : Lane) : (IMat.row l ⟨r1, r2, r3⟩).OfHalves :=
      hmatrix ▸ Gte.ofHalves_selectMatrix mx _ l
    have hv : v.OfHalves := hvector ▸ Gte.ofHalves_selectVector vx _
    have ha (l : Lane) : Wraps44
        (s.gte.clearFlag.fc.toIVec.at l * 2 ^ 12 + (IMat.row l ⟨r1, r2, r3⟩).x * v.x) (a.at l) := by
      subst hw
      cases l with
      | one => exact h1
      | two => exact h2
      | three => exact h3
    rw [Gte.multiplyAdd, hmatrix, hvector, hw]
    exact ⟨lanesAre_farColour hm hv ha _ lm, (flagAdds_farColour hm hv ha _ lm).flagIs rfl⟩

end Sys2Proof.Machine
end

section
/-! ### Interpolation toward the far colour -/

namespace Sys2Proof.Machine

/-! The two passes -/

section
variable (m : IVec) (sh : Nat) (lm : Bool) (g : Gte)

theorem Gte.lanesAre_interpFar : LanesAre (g.fc.x.toInt * 2 ^ 12 - m.x) (g.fc.y.toInt * 2 ^ 12 - m.y)
    (g.fc.z.toInt * 2 ^ 12 - m.z) sh false (g.interpFar m sh) := by
  rw [Gte.interpFar_eq]
  exact g.lanesAre_setLanes _ _ _ sh false

/-- The flags of the first pass, whose limiters have the floor of `lm` = 0 (R426). -/
theorem Gte.flagAdds_interpFar : Gte.FlagAdds
    (macFlags (g.fc.x.toInt * 2 ^ 12 - m.x) (g.fc.y.toInt * 2 ^ 12 - m.y) (g.fc.z.toInt * 2 ^ 12 - m.z)
      ++ signedIrFlags (farWord g.fc.x.toInt m.x sh) (farWord g.fc.y.toInt m.y sh)
        (farWord g.fc.z.toInt m.z sh)) g (g.interpFar m sh) := by
  obtain ⟨⟨h1, -⟩, ⟨h2, -⟩, ⟨h3, -⟩⟩ := g.lanesAre_interpFar m sh
  rw [farWord, farWord, farWord, ← h1, ← h2, ← h3, Gte.interpFar_eq]
  exact g.flagAdds_setLanes _ _ _ sh false

/-- The second pass stores the limited words of the first, scaled and added to the operand (R426). -/
theorem Gte.interp_eq : g.interp m sh lm = (g.interpFar m sh).setLanes
    (interpolated g.fc.x.toInt g.ir0.toInt m.x sh) (interpolated g.fc.y.toInt g.ir0.toInt m.y sh)
    (interpolated g.fc.z.toInt g.ir0.toInt m.z sh) sh lm := by
  obtain ⟨⟨h1, hir1⟩, ⟨h2, hir2⟩, ⟨h3, hir3⟩⟩ := g.lanesAre_interpFar m sh
  have hir0 : (g.interpFar m sh).ir0 = g.ir0 := by
    rw [Gte.interpFar_eq]
    obtain ⟨_, _, _, _, _, _, _, h⟩ := g.onlyLanes_setLanes _ _ _ sh false
    rw [h]
  rw [Gte.interp, Gte.interpNear_eq, hir0, hir1, hir2, hir3, h1, h2, h3]
  rfl

theorem Gte.lanesAre_interp : LanesAre (interpolated g.fc.x.toInt g.ir0.toInt m.x sh)
    (interpolated g.fc.y.toInt g.ir0.toInt m.y sh) (interpolated g.fc.z.toInt g.ir0.toInt m.z sh) sh lm
    (g.interp m sh lm) := by
  rw [Gte.interp_eq]
  exact (g.interpFar m sh).lanesAre_setLanes _ _ _ sh lm

/-- The flags of the two passes, and of the last limiters (R426). -/
theorem Gte.flagAdds_interp : Gte.FlagAdds
    (interpFlags g.fc.x.toInt g.fc.y.toInt g.fc.z.toInt g.ir0.toInt m.x m.y m.z sh
      ++ irFlags lm (g.interp m sh lm)) g (g.interp m sh lm) := by
  rw [interpFlags, List.append_assoc, Gte.interp_eq]
  exact (g.flagAdds_interpFar m sh).trans ((g.interpFar m sh).flagAdds_setLanes _ _ _ sh lm)

end

/-- An interpolation and a push, after what stores lanes and raises no flag (R417, R426). -/
theorem interp_pushRgb_spec {g h : Gte} (hgh : g.OnlyLanes h) (hflag : h.flag = 0) (m : IVec) (sh : Nat)
    (lm : Bool) : ColourPushed g (h.interp m sh lm).pushRgb ∧
      LanesAre (interpolated g.fc.x.toInt g.ir0.toInt m.x sh)
        (interpolated g.fc.y.toInt g.ir0.toInt m.y sh) (interpolated g.fc.z.toInt g.ir0.toInt m.z sh) sh
        lm (h.interp m sh lm).pushRgb ∧
      FlagIs (interpFlags g.fc.x.toInt g.fc.y.toInt g.fc.z.toInt g.ir0.toInt m.x m.y m.z sh
        ++ irFlags lm (h.interp m sh lm).pushRgb ++ colourFlags (h.interp m sh lm).pushRgb)
        (h.interp m sh lm).pushRgb := by
  have hpushed := (hgh.trans (h.onlyLanes_interp m sh lm)).colourPushed
  obtain ⟨hfc, hir0⟩ : h.fc = g.fc ∧ h.ir0 = g.ir0 := by
    obtain ⟨_, _, _, _, _, _, _, rfl⟩ := hgh
    exact ⟨rfl, rfl⟩
  rw [irFlags_pushRgb, ← hfc, ← hir0]
  exact ⟨hpushed, lanesAre_pushRgb.mpr (h.lanesAre_interp m sh lm),
    ((h.flagAdds_interp m sh lm).trans (Gte.flagAdds_pushRgb _)).flagIs hflag⟩

/-! The operands, loaded into MAC first -/

/-- `x` is the value of a word of 32 bits. -/
def Fits32 (x : Int) : Prop := -2 ^ 31 ≤ x ∧ x < 2 ^ 31

theorem Fits32.fits44 {x : Int} (h : Fits32 x) : Fits44 x := by
  obtain ⟨hlow, hhigh⟩ := h
  constructor <;> omega

theorem Fits32.toInt_ofInt {x : Int} (h : Fits32 x) : (BitVec.ofInt 32 x).toInt = x :=
  BitVec.toInt_ofInt_eq_self (by decide) h.1 h.2

/-- The MAC triplet replaced. -/
def Gte.loadMac (v : IVec) (g : Gte) : Gte :=
  { g with mac1 := BitVec.ofInt 32 v.x, mac2 := BitVec.ofInt 32 v.y, mac3 := BitVec.ofInt 32 v.z }

section
variable {v : IVec} (hv : ∀ l, Fits32 (v.at l)) {g : Gte}
include hv

theorem Gte.macVec_loadMac : (g.loadMac v).macVec = v := by
  have h1 : (BitVec.ofInt 32 v.x).toInt = v.x := (hv .one).toInt_ofInt
  have h2 : (BitVec.ofInt 32 v.y).toInt = v.y := (hv .two).toInt_ofInt
  have h3 : (BitVec.ofInt 32 v.z).toInt = v.z := (hv .three).toInt_ofInt
  simp only [Gte.macVec, Gte.loadMac, h1, h2, h3]

/-- A loop that stores words to MAC, of values that depend on IR alone, raises no flag (R405). -/
theorem Gte.forLanes_setMac_eq_loadMac {x : Lane → Gte → Int}
    (hx : ∀ l k, k.irVec = g.irVec → x l k = v.at l) :
    (g.forLanes fun l g => g.setMac l (x l g) 0) = g.loadMac v := by
  have hstep (l : Lane) (k : Gte) (hk : k.irVec = g.irVec) :
      k.setMac l (x l k) 0 = k.putMac l (BitVec.ofInt 32 (v.at l)) := by
    rw [hx l k hk, Gte.setMac, Gte.checkMac_of_fits (hv l).fits44, shiftRight_eq_div, pow_zero,
      Int.ediv_one]
  rw [Gte.forLanes, hstep .one g rfl, hstep .two (g.putMac ..) rfl,
    hstep .three ((g.putMac ..).putMac ..) rfl]
  rfl

end

/-- `DPC(c)` interpolates the colour shifted up by 16 (R456). -/
theorem Gte.depthCueColour_eq (w : Word) (sh : Nat) (lm : Bool) (g : Gte) {m : IVec}
    (hm : m = ⟨shl (colours w).x 16, shl (colours w).y 16, shl (colours w).z 16⟩) :
    g.depthCueColour (colours w) sh lm = ((g.loadMac m).interp m sh lm).pushRgb := by
  have hat (l : Lane) : m.at l = shl ((colours w).at l) 16 := by
    subst hm
    cases l <;> rfl
  have hfits (l : Lane) : Fits32 (m.at l) := by
    have hbyte : ∃ b : Byte, (colours w).at l = b.toNat := by cases l <;> exact ⟨_, rfl⟩
    obtain ⟨b, hb⟩ := hbyte
    have := b.isLt
    rw [hat, hb, shl]
    constructor <;> omega
  rw [Gte.depthCueColour, Gte.forLanes_setMac_eq_loadMac hfits fun l _ _ => (hat l).symm,
    Gte.macVec_loadMac hfits]

/-- INTPL interpolates the IR triplet shifted up by 12 (R459). -/
theorem Gte.interpolate_eq (sh : Nat) (lm : Bool) (g : Gte) {m : IVec}
    (hm : m = ⟨shl g.ir1.toInt 12, shl g.ir2.toInt 12, shl g.ir3.toInt 12⟩) :
    g.interpolate sh lm = (g.loadMac m).interp m sh lm := by
  have hat (l : Lane) : m.at l = shl (g.irVec.at l) 12 := by
    subst hm
    cases l <;> rfl
  have hir (l : Lane) (k : Gte) : k.irAt l = k.irVec.at l := by cases l <;> rfl
  have hfits (l : Lane) : Fits32 (m.at l) := by
    have hhalf : ∃ i : Half, g.irVec.at l = i.toInt := by cases l <;> exact ⟨_, rfl⟩
    obtain ⟨i, hi⟩ := hhalf
    have hlow := i.le_toInt
    have hhigh := i.toInt_lt
    rw [hat, hi, shl]
    constructor <;> omega
  rw [Gte.interpolate, Gte.forLanes_setMac_eq_loadMac hfits fun l k hk => by rw [hir, hk, hat],
    Gte.macVec_loadMac hfits]

/-- Settles O56: each command is an interpolation of its operand and a push; the loads of DPCS and INTPL
fit their words. -/
theorem interpolationResults : Obligations.InterpolationResults := by
  unfold Obligations.InterpolationResults
  intro s sf lm sh k f1 f2 f3 r g b m1 m2 m3 i hu hsh hk hf1 hf2 hf3 hr hg hb hi
  obtain rfl : sh = shiftOf sf := hsh
  subst hk hf1 hf2 hf3
  have hspec {h : Gte} (hh : s.gte.OnlyLanes h) (hflag : h.flag = 0) :=
    interp_pushRgb_spec hh hflag ⟨m1, m2, m3⟩ (shiftOf sf) lm
  have hclear := s.gte.onlyLanes_clearFlag
  rcases hi with ⟨rfl, h1, h2, h3⟩ | ⟨rfl, h1, h2, h3⟩ | ⟨rfl, h1, h2, h3⟩
  case inl =>
    refine ⟨_, show execDpcs .. = _ from gteCommand_of_usable hu _, ?_⟩
    dsimp only
    rw [Gte.depthCueColour_eq _ _ _ _ (m := ⟨m1, m2, m3⟩) (by rw [h1, h2, h3, hr, hg, hb]; rfl)]
    exact hspec (hclear.trans ⟨_, _, _, _, _, _, _, rfl⟩) rfl
  case inr.inl =>
    refine ⟨_, show execDcpl .. = _ from gteCommand_of_usable hu _, ?_⟩
    have hproduct : s.gte.clearFlag.colourProduct = ⟨m1, m2, m3⟩ := by
      rw [h1, h2, h3, hr, hg, hb]
      rfl
    dsimp only
    rw [Gte.depthCue, hproduct]
    exact hspec hclear rfl
  case inr.inr =>
    refine ⟨_, show execIntpl .. = _ from gteCommand_of_usable hu _, ?_⟩
    dsimp only
    rw [Gte.interpolate_eq _ _ _ (m := ⟨m1, m2, m3⟩) (by rw [h1, h2, h3]; rfl)]
    exact hspec (hclear.trans ⟨_, _, _, _, _, _, _, rfl⟩) rfl

end Sys2Proof.Machine
end

section
/-! ### Trap entry of each kind, and the mode and the vector it leaves -/

namespace Sys2Proof.Machine

/-- Trap entry where the step is not marked as trapped. -/
theorem trapEntered_takeTrap_unmarked (e : Exception) (s : State) :
    TrapEntered e.code e.coprocessor e.badAddress? s (s.takeTrap e) :=
  trapEntered_takeTrap e s s.trapped

/-- Settles O21: each kind by its code, its coprocessor number and its bad address. -/
theorem trapEntryEffect : Obligations.TrapEntryEffect := by
  unfold Obligations.TrapEntryEffect
  intro s
  have entered (e : Exception) := trapEntered_takeTrap_unmarked e s
  exact ⟨entered .interrupt, fun a => entered (.adel a), fun a => entered (.ades a),
    entered .syscall, entered .breakpoint, entered .reservedInstruction,
    fun c => entered (.coprocessorUnusable c), entered .arithmeticOverflow⟩

/-- Settles O22: the parts of trap entry that speak of SR and of the vector. -/
theorem trapModeAndVector : Obligations.TrapModeAndVector := by
  unfold Obligations.TrapModeAndVector
  intro e s
  have entered := trapEntered_takeTrap_unmarked e s
  have kernel (i : Nat) (hi : i < 2) : (s.takeTrap e).cop0.sr.getLsbD i = false := by
    simpa [hi] using congrArg (BitVec.getLsbD · i) entered.current
  have vector := entered.vector
  refine ⟨entered.old, entered.previous, kernel 1 (by decide), kernel 0 (by decide),
    entered.statusRest, fun hbev => ?_, fun hbev => ?_⟩
  · rwa [hbev, if_neg Bool.false_ne_true] at vector
  · rwa [hbev, if_pos rfl] at vector

end Sys2Proof.Machine
end

section
/-! ### The line's bit of CAUSE through a step -/

namespace Sys2Proof.Machine

/-- Bit 10 of CAUSE, which the interrupt line drives (D5), is as before. -/
def KeepsLine (s t : State) : Prop := t.cop0.cause.getLsbD 10 = s.cop0.cause.getLsbD 10

theorem keepsLine_of_cop0 {s t : State} (h : t.cop0 = s.cop0) : KeepsLine s t := by
  rw [KeepsLine, h]

section
variable (s : State)

/-- Trap entry writes CAUSE outside the line's bit. -/
theorem keepsLine_takeTrap (e : Exception) : KeepsLine s (s.takeTrap e) := by
  have hline : causeTrapBits[10] = false := by decide
  have h := congrArg (BitVec.getLsbD · 10) (trapEntered_takeTrap_unmarked e s).causeRest
  simpa [KeepsLine, hline] using h

theorem keepsLine_trapIfPending : KeepsLine s s.trapIfPending := by
  obtain ⟨-, h⟩ | ⟨-, h⟩ := s.trapIfPending_cases <;> rw [h]
  · exact keepsLine_takeTrap s _
  · rfl

theorem keepsLine_raise (e : Exception) : Leads (raise e s) (KeepsLine s) :=
  leads_next (keepsLine_takeTrap s e)

theorem keepsLine_whenCop0Usable {body : State → Result} (h : Leads (body s) (KeepsLine s)) :
    Leads (whenCop0Usable body s) (KeepsLine s) := leads_ite h (keepsLine_raise s _)

/-- MTC0 writes bits 9 and 8 of CAUSE alone (R305). -/
theorem keepsLine_execMtc0 (rt rd : RegIdx) : Leads (execMtc0 rt rd s) (KeepsLine s) := by
  apply keepsLine_whenCop0Usable
  cases h : s.cop0.write rd (s.readReg rt) with
  | none => exact leads_fault _ _
  | some c =>
    have hline : c.cause.getLsbD 10 = s.cop0.cause.getLsbD 10 := by
      obtain ⟨-, hc | hc⟩ := Cop0.write_eq_some h <;> rw [hc]
      exact causeWritten_bit _ _ 10 (by decide)
    exact leads_next hline

theorem keepsLine_execMfc0 (rt rd : RegIdx) : Leads (execMfc0 rt rd s) (KeepsLine s) := by
  apply keepsLine_whenCop0Usable
  cases s.cop0.read rd with
  | none => exact leads_fault _ _
  | some v => exact leads_next rfl

/-- No instruction writes the line's bit of CAUSE. -/
theorem keepsLine_exec (i : Instr) : Leads (exec i s) (KeepsLine s) := by
  by_cases hi : i.family = .cop0
  · cases i with
    | mfc0 rt rd => exact keepsLine_execMfc0 s rt rd
    | mtc0 rt rd => exact keepsLine_execMtc0 s rt rd
    | rfe =>
      apply keepsLine_whenCop0Usable
      exact leads_next rfl
    | cop0Reserved => exact keepsLine_whenCop0Usable s (keepsLine_raise s _)
    | _ => cases hi
  · intro t ht
    obtain hsame | ⟨e, rfl⟩ := cop0OnlyByTrap_exec s hi t ht
    · exact keepsLine_of_cop0 hsame
    · exact keepsLine_takeTrap s e

/-- P4 to P7 keep it, the trap of P6 too. -/
theorem keepsLine_endStep (w : Bool) : KeepsLine s (s.endStep w) := by
  have hresolved : (s.commitPhase.resolvePhase w).cop0 = s.cop0 := by simp
  change ((s.commitPhase.resolvePhase w).recheckPhase).cop0.cause.getLsbD 10 = _
  unfold State.recheckPhase
  split
  · exact (keepsLine_trapIfPending _).trans (keepsLine_of_cop0 hresolved)
  · exact keepsLine_of_cop0 hresolved

/-- The sample of P1 sets it, and the trap of P1 keeps it. -/
theorem State.beforeFetch_line : s.beforeFetch.cop0.cause.getLsbD 10 = s.irqLevels.headD false :=
  (keepsLine_trapIfPending s.beginStep.sampleLine).trans
    (s.beginStep.sampleLine_cause_bit 10 (by decide))

end

/-- Settles O13: P1 samples the line, and nothing after it in the step writes the bit. -/
theorem causeFollowsLine : Obligations.CauseFollowsLine := by
  unfold Obligations.CauseFollowsLine
  intro s t h
  obtain ⟨-, ⟨-, rfl⟩ | ⟨-, u, hu, rfl⟩⟩ := step_next_cases h
  · exact ⟨(keepsLine_endStep _ _).trans ((keepsLine_takeTrap _ _).trans s.beforeFetch_line), by simp⟩
  · exact ⟨(keepsLine_endStep _ _).trans ((keepsLine_exec _ _ u hu).trans s.beforeFetch_line),
      by simp [(familyFrame_exec _ _ _ hu).irqLevels]⟩

end Sys2Proof.Machine
end

section
/-! ### The frames of the GTE commands -/

namespace Sys2Proof.Machine

/-! What the stages can change, as R475 lists it -/

theorem Gte.OnlyLanes.changesLanes {g h : Gte} : g.OnlyLanes h → ChangesLanes g h := by
  rintro ⟨_, _, _, _, _, _, _, rfl⟩
  rfl

theorem Gte.OnlyColours.changesColours {g h : Gte} : g.OnlyColours h → ChangesColours g h := by
  rintro ⟨_, _, _, _, ⟨_, _, _, _, _, _, _, rfl⟩, rfl⟩
  rfl

theorem ChangesTransform.trans {g h k : Gte} (hgh : ChangesTransform g h)
    (hhk : ChangesTransform h k) : ChangesTransform g k := by
  rw [ChangesTransform, hhk, hgh]

theorem changesMac0_setMac0 (x : Int) (g : Gte) : ChangesMac0 g (g.clearFlag.setMac0 x) := by
  obtain ⟨m, a, h⟩ := exists_setMac0 x
  rw [h]
  rfl

/-- A push after what stores lanes. -/
theorem Gte.OnlyLanes.onlyColours_pushRgb {g h : Gte} (hgh : g.OnlyLanes h) :
    g.OnlyColours h.pushRgb := hgh.onlyColours.trans (Gte.onlyColours_pushRgb h)

section
variable (sh : Nat) (lm : Bool) (g : Gte)

theorem Gte.onlyLanes_outerProduct : g.OnlyLanes (g.outerProduct sh lm) :=
  g.onlyLanes_setLanes _ _ _ sh lm

theorem Gte.onlyLanes_square : g.OnlyLanes (g.square sh lm) :=
  Gte.onlyLanes_forLanes (fun l k => Gte.onlyLanes_setMacIr l _ sh lm k) g

theorem Gte.onlyLanes_scale : g.OnlyLanes (g.scale sh lm) :=
  Gte.onlyLanes_forLanes (fun l k => Gte.onlyLanes_setMacIr l _ sh lm k) g

theorem Gte.onlyLanes_scaleAccumulate : g.OnlyLanes (g.scaleAccumulate sh lm) :=
  Gte.onlyLanes_forLanes (fun l k => Gte.onlyLanes_setMacIr l _ sh lm k) g

theorem Gte.onlyLanes_interpolate : g.OnlyLanes (g.interpolate sh lm) :=
  (Gte.onlyLanes_forLanes (fun l k => Gte.onlyLanes_setMac l _ 0 k) g).trans
    (Gte.onlyLanes_interp _ sh lm _)

theorem Gte.onlyColours_depthCueColour (c : IVec) : g.OnlyColours (g.depthCueColour c sh lm) :=
  ((Gte.onlyLanes_forLanes (fun l k => Gte.onlyLanes_setMac l _ 0 k) g).trans
    (Gte.onlyLanes_interp _ sh lm _)).onlyColours_pushRgb

theorem Gte.onlyColours_normalColour (v : Vec16) : g.OnlyColours (g.normalColour v sh lm) :=
  (g.onlyLanes_light v sh lm).onlyColours_pushRgb

theorem Gte.onlyColours_normalColourColour (v : Vec16) :
    g.OnlyColours (g.normalColourColour v sh lm) :=
  ((g.onlyLanes_light v sh lm).trans (Gte.onlyLanes_colourMul sh lm _)).onlyColours_pushRgb

theorem Gte.onlyColours_normalColourDepth (v : Vec16) :
    g.OnlyColours (g.normalColourDepth v sh lm) :=
  ((g.onlyLanes_light v sh lm).trans (Gte.onlyLanes_depthCue sh lm _)).onlyColours_pushRgb

theorem changesAverage_setAverage (r : Int) : ChangesAverage g (g.clearFlag.setAverage r) := by
  obtain ⟨m, a, hm⟩ := exists_setMac0 r
  obtain ⟨f, hf⟩ : (g.clearFlag.setMac0 r).OnlyFlag ((g.clearFlag.setMac0 r).flagC (r >>> 12)) :=
    Gte.onlyFlag_raiseFlag _ _ _
  rw [Gte.setAverage, hf, hm]
  rfl

/-- A vertex is a round, which writes what R475 lists. -/
theorem changesTransform_rtp (v : Vec16) : ChangesTransform g (g.rtp v sh lm) := by
  obtain ⟨r, hr⟩ := exists_rtp g v sh lm
  rw [hr g ⟨rfl, rfl, rfl, rfl, rfl, rfl, rfl⟩]
  rfl

theorem changesTransform_rtpDepth : ChangesTransform g g.rtpDepth := by
  obtain ⟨m, a, hm⟩ := exists_setMac0 (g.quotient * g.dqa.toInt + g.dqb.toInt)
  obtain ⟨i, b, hi⟩ := exists_setIr0 (wrap32 ((g.quotient * g.dqa.toInt + g.dqb.toInt) >>> 12))
  rw [Gte.rtpDepth, hi, hm]
  rfl

theorem changesTransform_rtpLast (v : Vec16) : ChangesTransform g (g.rtpLast v sh lm) :=
  (changesTransform_rtp sh lm g v).trans (changesTransform_rtpDepth _)

theorem changesTransform_three (v1 v2 v3 : Vec16) :
    ChangesTransform g (((g.rtp v1 sh lm).rtp v2 sh lm).rtpLast v3 sh lm) :=
  ((changesTransform_rtp sh lm g v1).trans (changesTransform_rtp sh lm _ v2)).trans
    (changesTransform_rtpLast sh lm _ v3)

end

/-! The commands -/

section
variable {s : State} (hu : s.cop0.sr.getLsbD 30 = true)
include hu

/-- A command completes with the frame of R450 and what its body does to the GTE with FLAG cleared. -/
theorem runs_gteCommand {i : Instr} {f : Gte → Gte} {P : State → Prop}
    (hi : exec i s = gteCommand f s)
    (hP : P { s with gte := f s.gte.clearFlag, pc := s.pc + 4 }) :
    Runs i s fun t => OnlyGte s t ∧ P t :=
  ⟨_, hi.trans (gteCommand_of_usable hu f), rfl, hP⟩

theorem runs_changesLanes {i : Instr} {f : Gte → Gte} (hi : exec i s = gteCommand f s)
    (hf : ∀ g, Gte.OnlyLanes g (f g)) :
    Runs i s fun t => OnlyGte s t ∧ ChangesLanes s.gte t.gte :=
  runs_gteCommand hu hi (s.gte.onlyLanes_clearFlag.trans (hf _)).changesLanes

theorem runs_changesColours {i : Instr} {f : Gte → Gte} (hi : exec i s = gteCommand f s)
    (hf : ∀ g, Gte.OnlyColours g (f g)) :
    Runs i s fun t => OnlyGte s t ∧ ChangesColours s.gte t.gte :=
  runs_gteCommand hu hi (s.gte.onlyLanes_clearFlag.onlyColours.trans (hf _)).changesColours

/-- A command that stores lanes and pushes a colour. -/
theorem runs_changesColours_pushRgb {i : Instr} {f : Gte → Gte}
    (hi : exec i s = gteCommand (fun g => (f g).pushRgb) s) (hf : ∀ g, Gte.OnlyLanes g (f g)) :
    Runs i s fun t => OnlyGte s t ∧ ChangesColours s.gte t.gte :=
  runs_changesColours hu hi fun g => (hf g).onlyColours_pushRgb

/-- A command of three vectors: three rounds, each with what it can change. -/
theorem runs_changesColours_three {i : Instr} {f : Vec16 → Gte → Gte}
    (hf : ∀ g v, Gte.OnlyColours g (f v g))
    (hi : exec i s = gteCommand (fun g => f g.v2 (f g.v1 (f g.v0 g))) s) :
    Runs i s fun t => OnlyGte s t ∧ ChangesColours s.gte t.gte :=
  runs_changesColours hu hi fun g => ((hf g _).trans (hf _ _)).trans (hf _ _)

/-- A command starts from FLAG cleared, so what FLAG held is lost (R450). -/
theorem exec_gteCommand_with_flag {i : Instr} (hi : i.family = .gteCommand) (f : Word) :
    exec i { s with gte := { s.gte with flag := f } } = exec i s := by
  obtain ⟨body, -, hexec⟩ := exec_gteCommand i hi
  rw [exec_with_gte hu hexec, hexec, gteCommand_of_usable hu]
  rfl

theorem runs_changesTransform {i : Instr} {f : Gte → Gte} (hi : exec i s = gteCommand f s)
    (hf : ∀ g, ChangesTransform g (f g)) :
    Runs i s fun t => OnlyGte s t ∧ ChangesTransform s.gte t.gte :=
  runs_gteCommand hu hi (ChangesTransform.trans (h := s.gte.clearFlag) rfl (hf _))

end

/-- Settles O52: each command by the frame of its body. -/
theorem gteCommandFrames : Obligations.GteCommandFrames := by
  unfold Obligations.GteCommandFrames
  intro s sf lm mx vx tx hu
  simp only [List.forall_mem_cons, List.not_mem_nil, IsEmpty.forall_iff, implies_true, and_true]
  refine ⟨?mac0, ?average, ?lanes, ?colours, ?transform, fun i f hi =>
    exec_gteCommand_with_flag hu hi f⟩
  case mac0 =>
    exact runs_gteCommand hu (show execNclip s = _ from rfl) (changesMac0_setMac0 _ s.gte)
  case average =>
    exact ⟨runs_gteCommand hu (show execAvsz3 s = _ from rfl) (changesAverage_setAverage s.gte _),
      runs_gteCommand hu (show execAvsz4 s = _ from rfl) (changesAverage_setAverage s.gte _)⟩
  case lanes =>
    exact ⟨runs_changesLanes hu (show execOp sf lm s = _ from rfl) (Gte.onlyLanes_outerProduct _ lm),
      runs_changesLanes hu (show execSqr sf lm s = _ from rfl) (Gte.onlyLanes_square _ lm),
      runs_changesLanes hu (show execMvmva sf mx vx tx lm s = _ from rfl)
        (Gte.onlyLanes_multiplyAdd mx vx tx _ lm)⟩
  case colours =>
    refine ⟨
      runs_changesColours hu (show execDpcs sf lm s = _ from rfl) fun g =>
        Gte.onlyColours_depthCueColour _ lm g _,
      runs_changesColours hu (show execDpct sf lm s = _ from rfl) fun g =>
        ((Gte.onlyColours_depthCueColour _ lm g _).trans
          (Gte.onlyColours_depthCueColour _ lm _ _)).trans (Gte.onlyColours_depthCueColour _ lm _ _),
      runs_changesColours_pushRgb hu (show execDcpl sf lm s = _ from rfl) fun g =>
        Gte.onlyLanes_depthCue _ lm g,
      runs_changesColours_pushRgb hu (show execIntpl sf lm s = _ from rfl) fun g =>
        Gte.onlyLanes_interpolate _ lm g,
      runs_changesColours hu (show execNcs sf lm s = _ from rfl) fun g =>
        Gte.onlyColours_normalColour _ lm g _,
      runs_changesColours_three hu (Gte.onlyColours_normalColour (shiftOf sf) lm)
        (show execNct sf lm s = _ from rfl),
      runs_changesColours hu (show execNccs sf lm s = _ from rfl) fun g =>
        Gte.onlyColours_normalColourColour _ lm g _,
      runs_changesColours_three hu (Gte.onlyColours_normalColourColour (shiftOf sf) lm)
        (show execNcct sf lm s = _ from rfl),
      runs_changesColours hu (show execNcds sf lm s = _ from rfl) fun g =>
        Gte.onlyColours_normalColourDepth _ lm g _,
      runs_changesColours_three hu (Gte.onlyColours_normalColourDepth (shiftOf sf) lm)
        (show execNcdt sf lm s = _ from rfl),
      runs_changesColours_pushRgb hu (show execCc sf lm s = _ from rfl) fun g =>
        (Gte.onlyLanes_colourTransform _ lm g).trans (Gte.onlyLanes_colourMul _ lm _),
      runs_changesColours_pushRgb hu (show execCdp sf lm s = _ from rfl) fun g =>
        (Gte.onlyLanes_colourTransform _ lm g).trans (Gte.onlyLanes_depthCue _ lm _),
      runs_changesColours_pushRgb hu (show execGpf sf lm s = _ from rfl) (Gte.onlyLanes_scale _ lm),
      runs_changesColours_pushRgb hu (show execGpl sf lm s = _ from rfl)
        (Gte.onlyLanes_scaleAccumulate _ lm)⟩
  case transform =>
    exact ⟨runs_changesTransform hu (show execRtps sf lm s = _ from rfl)
        fun g => changesTransform_rtpLast _ lm g _,
      runs_changesTransform hu (show execRtpt sf lm s = _ from rfl)
        fun g => changesTransform_three _ lm g _ _ _⟩

end Sys2Proof.Machine
end

section
/-! ### NCLIP, AVSZ3 and AVSZ4 -/

namespace Sys2Proof.Machine

/-- A shift by a literal, which the model writes as an integer, is a division (R12). -/
theorem shiftRight_literal (x : Int) (n : Nat) : x >>> (OfNat.ofNat n : Int) = x / 2 ^ n :=
  (Int.shiftRight_natCast_right x n).trans (shiftRight_eq_div x n)

theorem Gte.flagAdds_flagC (v : Int) (g : Gte) :
    Gte.FlagAdds [(18, Outside 0 0xFFFF v)] g (g.flagC v) :=
  Gte.flagAdds_raiseFlag (outside_iff _ _ _) (by omega) g

/-- A limited average fits a half. -/
theorem toNat_limC (v : Int) : ((BitVec.ofInt 16 (limC v)).toNat : Int) = min (max v 0) 0xFFFF := by
  have h : limC v = min (max v 0) 0xFFFF := rfl
  rw [BitVec.toNat_ofInt, h]
  omega

/-- The signed area is the cross product of the two sides from the oldest vertex (R453). -/
theorem Gte.signedArea_eq (g : Gte) : g.signedArea =
    (g.sxy1.sx.toInt - g.sxy0.sx.toInt) * (g.sxy2.sy.toInt - g.sxy0.sy.toInt)
      - (g.sxy2.sx.toInt - g.sxy0.sx.toInt) * (g.sxy1.sy.toInt - g.sxy0.sy.toInt) := by
  unfold Gte.signedArea
  ring

/-- MAC0, OTZ and the flags that an average leaves, from the exact value (R469, R470). -/
theorem average_spec (r : Int) (g : Gte) :
    ChangesAverage g (g.clearFlag.setAverage r) ∧
      (g.clearFlag.setAverage r).mac0 = BitVec.ofInt 32 r ∧
      ((g.clearFlag.setAverage r).otz.toNat : Int) = min (max (r / 2 ^ 12) 0) 0xFFFF ∧
      FlagIs (mac0Flags r ++ [(18, Outside 0 0xFFFF (r / 2 ^ 12))]) (g.clearFlag.setAverage r) := by
  refine ⟨changesAverage_setAverage g r, rfl, ?_, ?_⟩
  · rw [← shiftRight_literal]
    exact toNat_limC _
  · rw [← shiftRight_literal]
    have hflags := (Gte.flagAdds_setMac0 r g.clearFlag).trans (Gte.flagAdds_flagC (r >>> 12) _)
    exact hflags.flagIs rfl

/-- Settles O53: MAC0 is stored from the exact value, and an average is limited from it. -/
theorem scalarGteResults : Obligations.ScalarGteResults := by
  unfold Obligations.ScalarGteResults
  intro s hu
  refine ⟨?nclip, ?avsz3, ?avsz4⟩
  case nclip =>
    rintro x rfl
    rw [← Gte.signedArea_eq]
    exact runs_gteCommand hu (show execNclip s = _ from rfl)
      ⟨changesMac0_setMac0 _ s.gte, rfl, (Gte.flagAdds_setMac0 _ s.gte.clearFlag).flagIs rfl⟩
  case avsz3 =>
    rintro r rfl
    exact runs_gteCommand hu (show execAvsz3 s = _ from rfl) (average_spec _ s.gte)
  case avsz4 =>
    rintro r rfl
    exact runs_gteCommand hu (show execAvsz4 s = _ from rfl) (average_spec _ s.gte)

end Sys2Proof.Machine
end

section
/-! ### OP, SQR, GPF and GPL -/

namespace Sys2Proof.Machine

/-! The commands as three lanes stored -/

/-- A store to one lane leaves the MAC of another. -/
theorem Gte.macAt_setMacIr_of_ne {l l' : Lane} (h : l' ≠ l) (x : Int) (s : Nat) (lm : Bool) (g : Gte) :
    (g.setMacIr l x s lm).macAt l' = g.macAt l' := by
  obtain ⟨m, i, a, hstore⟩ := exists_setMacIr l x s lm
  rw [hstore, Gte.macAt_mapFlag]
  cases l' <;> exact congrArg BitVec.toInt (if_neg h.symm)

section
variable (sh : Nat) (lm : Bool) (g : Gte)

/-- OP reads its operands before any store (R454). -/
theorem Gte.outerProduct_eq : g.outerProduct sh lm = g.setLanes
    (g.ir3.toInt * g.rt.m22.toInt - g.ir2.toInt * g.rt.m33.toInt)
    (g.ir1.toInt * g.rt.m33.toInt - g.ir3.toInt * g.rt.m11.toInt)
    (g.ir2.toInt * g.rt.m11.toInt - g.ir1.toInt * g.rt.m22.toInt) sh lm := rfl

theorem Gte.square_eq : g.square sh lm = g.setLanes (g.ir1.toInt * g.ir1.toInt)
    (g.ir2.toInt * g.ir2.toInt) (g.ir3.toInt * g.ir3.toInt) sh lm :=
  Gte.forLanes_eq_setLanes (x := fun l g => g.irAt l * g.irAt l)
    (fun h y k => by simp [Gte.irAt_setMacIr_of_ne h]) g

theorem Gte.scale_eq : g.scale sh lm = g.setLanes (g.ir1.toInt * g.ir0.toInt)
    (g.ir2.toInt * g.ir0.toInt) (g.ir3.toInt * g.ir0.toInt) sh lm :=
  Gte.forLanes_eq_setLanes (x := fun l g => g.irAt l * g.ir0.toInt)
    (fun h y k => by simp [Gte.irAt_setMacIr_of_ne h]) g

theorem Gte.scaleAccumulate_eq : g.scaleAccumulate sh lm = g.setLanes
    (g.ir1.toInt * g.ir0.toInt + g.mac1.toInt * 2 ^ sh)
    (g.ir2.toInt * g.ir0.toInt + g.mac2.toInt * 2 ^ sh)
    (g.ir3.toInt * g.ir0.toInt + g.mac3.toInt * 2 ^ sh) sh lm :=
  Gte.forLanes_eq_setLanes (x := fun l g => g.irAt l * g.ir0.toInt + shl (g.macAt l) sh)
    (fun h y k => by simp [Gte.irAt_setMacIr_of_ne h, Gte.macAt_setMacIr_of_ne h]) g

end

/-! What a command that stores three lanes leaves -/

theorem fits44_half_mul (a b : Half) : Fits44 (a.toInt * b.toInt) := by
  have := half_mul_bounds a b
  constructor <;> omega

theorem fits44_half_mul_sub (a b c d : Half) : Fits44 (a.toInt * b.toInt - c.toInt * d.toInt) := by
  have := half_mul_bounds a b
  have := half_mul_bounds c d
  constructor <;> omega

section
variable (x1 x2 x3 : Int) (sh : Nat) (lm : Bool) (g : Gte)

/-- Lanes that fit the accumulator, stored after FLAG is cleared. -/
theorem setLanes_spec (h1 : Fits44 x1) (h2 : Fits44 x2) (h3 : Fits44 x3) :
    ChangesLanes g (g.clearFlag.setLanes x1 x2 x3 sh lm) ∧
      LanesAre x1 x2 x3 sh lm (g.clearFlag.setLanes x1 x2 x3 sh lm) ∧
      FlagIs (irFlags lm (g.clearFlag.setLanes x1 x2 x3 sh lm))
        (g.clearFlag.setLanes x1 x2 x3 sh lm) :=
  ⟨(g.onlyLanes_clearFlag.trans (Gte.onlyLanes_setLanes x1 x2 x3 sh lm _)).changesLanes,
    Gte.lanesAre_setLanes x1 x2 x3 sh lm _,
    (Gte.flagAdds_setLanes_of_fits x1 x2 x3 sh lm _ h1 h2 h3).flagIs rfl⟩

/-- Lanes stored after FLAG is cleared, and a push; `bits` are the flags of the lanes. -/
theorem setLanes_pushRgb_spec {bits : List (Nat × Prop)}
    (hbits : Gte.FlagAdds bits g.clearFlag (g.clearFlag.setLanes x1 x2 x3 sh lm)) :
    ChangesColours g (g.clearFlag.setLanes x1 x2 x3 sh lm).pushRgb ∧
      LanesAre x1 x2 x3 sh lm (g.clearFlag.setLanes x1 x2 x3 sh lm).pushRgb ∧
      ColourPushed g (g.clearFlag.setLanes x1 x2 x3 sh lm).pushRgb ∧
      FlagIs (bits ++ colourFlags (g.clearFlag.setLanes x1 x2 x3 sh lm).pushRgb)
        (g.clearFlag.setLanes x1 x2 x3 sh lm).pushRgb := by
  have hlanes := g.onlyLanes_clearFlag.trans (Gte.onlyLanes_setLanes x1 x2 x3 sh lm _)
  exact ⟨hlanes.onlyColours_pushRgb.changesColours,
    lanesAre_pushRgb.mpr (Gte.lanesAre_setLanes x1 x2 x3 sh lm _), hlanes.colourPushed,
    (hbits.trans (Gte.flagAdds_pushRgb _)).flagIs rfl⟩

end

/-- Settles O54: each command stores three lanes; those of OP, SQR and GPF fit the accumulator. -/
theorem laneGteResults : Obligations.LaneGteResults := by
  unfold Obligations.LaneGteResults
  rintro s sf lm sh a b c k hu hsh rfl rfl rfl rfl
  obtain rfl : sh = shiftOf sf := hsh
  refine ⟨?op, ?sqr, ?gpf, ?gpl⟩
  case op =>
    refine runs_gteCommand hu (show execOp sf lm s = _ from rfl) ?_
    exact setLanes_spec _ _ _ _ lm s.gte (fits44_half_mul_sub _ _ _ _) (fits44_half_mul_sub _ _ _ _)
      (fits44_half_mul_sub _ _ _ _)
  case sqr =>
    refine runs_gteCommand hu (show execSqr sf lm s = _ from rfl) ?_
    dsimp only
    rw [Gte.square_eq]
    exact setLanes_spec _ _ _ _ lm s.gte (fits44_half_mul _ _) (fits44_half_mul _ _)
      (fits44_half_mul _ _)
  case gpf =>
    refine runs_gteCommand hu (show execGpf sf lm s = _ from rfl) ?_
    dsimp only
    rw [Gte.scale_eq, irFlags_pushRgb]
    exact setLanes_pushRgb_spec _ _ _ _ lm s.gte (Gte.flagAdds_setLanes_of_fits _ _ _ _ lm _
      (fits44_half_mul _ _) (fits44_half_mul _ _) (fits44_half_mul _ _))
  case gpl =>
    rintro x1 x2 x3 rfl rfl rfl
    refine runs_gteCommand hu (show execGpl sf lm s = _ from rfl) ?_
    dsimp only
    rw [Gte.scaleAccumulate_eq, irFlags_pushRgb]
    exact setLanes_pushRgb_spec _ _ _ _ lm s.gte (Gte.flagAdds_setLanes _ _ _ _ lm _)

end Sys2Proof.Machine
end

section
/-! ### RTPS -/

namespace Sys2Proof.Machine

/-! The transform -/

/-- What the transform of a vertex stores from the exact sums `x`: IR3 is limited with its word, but
flagged with `z` (R451). -/
def Gte.storeVertex (x : IVec) (z : Int) (sh : Nat) (lm : Bool) (g : Gte) : Gte :=
  (((((g.forLanes fun l g => g.setMac l (x.at l) sh).setIr .one (wrap32 (x.at .one >>> sh)) lm).setIr
    .two (wrap32 (x.at .two >>> sh)) lm).raiseFlag (outside (-0x8000) 0x7FFF z) 22).putIr .three
    (BitVec.ofInt 16 (limA lm (wrap32 (x.at .three >>> sh))))).pushSz z

section
variable (x : IVec) (z : Int) (sh : Nat) (lm : Bool) (g : Gte)

theorem lanesAre_storeVertex : LanesAre x.x x.y x.z sh lm (g.storeVertex x z sh lm) :=
  ⟨laneIs_stored sh lm x.x, laneIs_stored sh lm x.y, laneIs_stored sh lm x.z⟩

theorem Gte.flagAdds_setMac (l : Lane) (y : Int) :
    Gte.FlagAdds (laneMacFlags l y) g (g.setMac l y sh) := g.flagAdds_checkMac l y

theorem Gte.flagAdds_setIr (l : Lane) (y : Int) :
    Gte.FlagAdds (laneIrFlags l lm (BitVec.ofInt 32 (y / 2 ^ sh)).toInt) g
      (g.setIr l (wrap32 (y >>> sh)) lm) := by
  rw [← shiftRight_eq_div]
  exact g.flagAdds_flagA l lm _

/-- IR3 replaced, and then the push: the flag is that of the push (R415). -/
theorem Gte.flagAdds_putIr_pushSz (l : Lane) (i : Half) :
    Gte.FlagAdds [(18, Outside 0 0xFFFF z)] g ((g.putIr l i).pushSz z) :=
  (g.putIr l i).flagAdds_flagC z

/-- The flags of the third sums, of the first two words, and of `z` (R404, R410, R412, R451). -/
theorem Gte.flagAdds_storeVertex : Gte.FlagAdds (macFlags x.x x.y x.z ++
    [(24, Outside (if lm then 0 else -0x8000) 0x7FFF (g.storeVertex x z sh lm).mac1.toInt),
      (23, Outside (if lm then 0 else -0x8000) 0x7FFF (g.storeVertex x z sh lm).mac2.toInt),
      (22, Outside (-0x8000) 0x7FFF z), (18, Outside 0 0xFFFF z)]) g (g.storeVertex x z sh lm) := by
  obtain ⟨⟨h1, -⟩, ⟨h2, -⟩, -⟩ := lanesAre_storeVertex x z sh lm g
  have hmac := Gte.flagAdds_forLanes (fun l k => Gte.flagAdds_setMac sh k l (x.at l)) g
  have hlanes := (hmac.trans (Gte.flagAdds_setIr sh lm _ .one x.x)).trans
    (Gte.flagAdds_setIr sh lm _ .two x.y)
  have hz := hlanes.trans (Gte.flagAdds_raiseFlag (outside_iff (-0x8000) 0x7FFF z)
    (b := 22) (by decide) _)
  rw [h1, h2, Gte.storeVertex]
  refine (hz.trans (Gte.flagAdds_putIr_pushSz z _ .three _)).congr fun k => ?_
  simp only [flagged_append, flagged_cons, flagged_nil, flagged_macFlags, laneIrFlags, Lane.number,
    Nat.reduceSub, IVec.at, or_false]
  exact iff_of_eq (by ac_rfl)

end

section
variable {g : Gte} {v : Vec16} {a b x : IVec} {e : Int} (sh : Nat) (lm : Bool)
  (h : RowSums g.rt.toIMat.r1 g.rt.toIMat.r2 g.rt.toIMat.r3 v.toIVec g.tr.toIVec a b x)
  (he : Wraps44 x.z e)
include h he

/-- With the sums of the transform known, it is their checks and the store of the third sums. -/
theorem RowSums.rtpTransform_eq : g.rtpTransform v sh lm =
    (g.forLanes fun l k => k.checkRow l (some (g.tr.toIVec.at l)) (g.rt.toIMat.row l)
      v.toIVec).storeVertex x (e / 2 ^ 12) sh lm := by
  have hx (l : Lane) : rowValue (some (g.tr.toIVec.at l)) (g.rt.toIMat.row l) v.toIVec = x.at l :=
    (h.row l).rowValue_eq
  have hz : wrap44 (x.at .three) >>> (12 : Int) = e / 2 ^ 12 := by
    rw [shiftRight_literal]
    exact congrArg (· / 2 ^ 12) he.wrap44_eq
  have hrows : (g.forLanes fun l k => k.checkRow l (some (k.tr.toIVec.at l)) (g.rt.toIMat.row l)
      v.toIVec) = g.forLanes fun l k => k.checkRow l (some (g.tr.toIVec.at l)) (g.rt.toIMat.row l)
      v.toIVec := by
    refine Gte.forLanes_congr (fun l k => k.onlyLanes_checkRow l _ _ _) fun l k hk => ?_
    obtain ⟨_, _, _, _, _, _, _, rfl⟩ := hk
    rfl
  unfold Gte.rtpTransform
  simp only [hx, hz, hrows]
  rfl

/-- The flags of the transform: all the sums, the first two words, and `z` (R404, R410, R412, R425). -/
theorem RowSums.flagAdds_rtpTransform : Gte.FlagAdds
    (sumFlags g.rt.toIMat.r1 g.rt.toIMat.r2 g.rt.toIMat.r3 v.toIVec g.tr.toIVec a x ++
      [(24, Outside (if lm then 0 else -0x8000) 0x7FFF (g.rtpTransform v sh lm).mac1.toInt),
        (23, Outside (if lm then 0 else -0x8000) 0x7FFF (g.rtpTransform v sh lm).mac2.toInt),
        (22, Outside (-0x8000) 0x7FFF (e / 2 ^ 12)), (18, Outside 0 0xFFFF (e / 2 ^ 12))]) g
    (g.rtpTransform v sh lm) := by
  rw [h.rtpTransform_eq sh lm he]
  refine ((Gte.flagAdds_forLanes (fun l k => (h.row l).flagAdds_checkRow l k) g).trans
    (Gte.flagAdds_storeVertex x (e / 2 ^ 12) sh lm _)).congr fun k => ?_
  simp only [sumFlags, firstSumFlags, flagged_append, flagged_macFlags, IVec.at, IMat.row]
  exact iff_of_eq (by ac_rfl)

/-- The lanes and the newest Z that the transform leaves (R405, R407, R415). -/
theorem RowSums.rtpTransform_spec : LanesAre x.x x.y x.z sh lm (g.rtpTransform v sh lm) ∧
    ((g.rtpTransform v sh lm).sz3.toNat : Int) = min (max (e / 2 ^ 12) 0) 0xFFFF := by
  rw [h.rtpTransform_eq sh lm he]
  exact ⟨lanesAre_storeVertex x _ sh lm _, toNat_limC _⟩

end

/-! The screen point and the depth cue -/

section
variable (g : Gte)

theorem Gte.rtpScreen_frame : ∃ m p f, g.rtpScreen =
    { g with mac0 := m, sxy0 := g.sxy1, sxy1 := g.sxy2, sxy2 := p, flag := f } := by
  obtain ⟨_, _, hx⟩ := exists_setMac0 (g.quotient * g.ir1.toInt + g.ofx.toInt)
  obtain ⟨_, _, hy⟩ := exists_setMac0 (g.quotient * g.ir2.toInt + g.ofy.toInt)
  obtain ⟨_, _, hpush⟩ := exists_pushSxy _ _
  obtain ⟨_, hdivide⟩ : g.OnlyFlag g.flagDivide := Gte.onlyFlag_raiseFlag _ _ _
  rw [Gte.rtpScreen, hdivide, hx, hy, hpush]
  exact ⟨_, _, _, rfl⟩

theorem Gte.rtpDepth_frame : ∃ m i f, g.rtpDepth = { g with mac0 := m, ir0 := i, flag := f } := by
  obtain ⟨_, _, hm⟩ := exists_setMac0 (g.quotient * g.dqa.toInt + g.dqb.toInt)
  obtain ⟨_, _, hi⟩ := exists_setIr0 (wrap32 ((g.quotient * g.dqa.toInt + g.dqb.toInt) >>> 12))
  rw [Gte.rtpDepth, hi, hm]
  exact ⟨_, _, _, rfl⟩

theorem toInt_limD (v : Int) : (BitVec.ofInt 16 (limD v)).toInt = min (max v (-0x400)) 0x3FF := by
  have h : limD v = min (max v (-0x400)) 0x3FF := rfl
  rw [BitVec.toInt_ofInt_eq_self (by decide) (by omega) (by omega), h]

theorem toInt_limE (v : Int) : (BitVec.ofInt 16 (limE v)).toInt = min (max v 0) 0x1000 := by
  have h : limE v = min (max v 0) 0x1000 := rfl
  rw [BitVec.toInt_ofInt_eq_self (by decide) (by omega) (by omega), h]

/-- The newest screen point (R414, R416, R451). -/
theorem Gte.sxy2_rtpScreen :
    g.rtpScreen.sxy2.sx.toInt = min (max (screenWord g.quotient g.ir1 g.ofx) (-0x400)) 0x3FF ∧
      g.rtpScreen.sxy2.sy.toInt = min (max (screenWord g.quotient g.ir2 g.ofy) (-0x400)) 0x3FF := by
  unfold screenWord
  rw [← shiftRight_literal, ← shiftRight_literal]
  exact ⟨toInt_limD _, toInt_limD _⟩

/-- The flags of the division, of MAC0 for both coordinates, and of the screen point (R451). -/
theorem Gte.flagAdds_rtpScreen : Gte.FlagAdds
    ([(17, (divide config.gteDivTableSatSetsFlag g.h.toNat g.sz3.toNat).2 = true)]
      ++ screenFlags g.quotient g
      ++ [(14, Outside (-0x400) 0x3FF (screenWord g.quotient g.ir1 g.ofx)),
        (13, Outside (-0x400) 0x3FF (screenWord g.quotient g.ir2 g.ofy))]) g g.rtpScreen := by
  unfold screenWord
  rw [← shiftRight_literal, ← shiftRight_literal, screenFlags, ← List.append_assoc]
  have hdivide : Gte.FlagAdds [(17, _ = true)] g g.flagDivide :=
    Gte.flagAdds_raiseFlag Iff.rfl (by decide) g
  exact ((hdivide.trans (Gte.flagAdds_setMac0 _ _)).trans (Gte.flagAdds_setMac0 _ _)).trans
    (Gte.flagAdds_pushSxy _ _ _)

/-- MAC0 and IR0 of the depth cue (R406, R413, R451). -/
theorem Gte.rtpDepth_spec {dq : Int} (hdq : dq = g.quotient * g.dqa.toInt + g.dqb.toInt) :
    g.rtpDepth.mac0 = BitVec.ofInt 32 dq ∧
      g.rtpDepth.ir0.toInt = min (max (BitVec.ofInt 32 (dq / 2 ^ 12)).toInt 0) 0x1000 ∧
      Gte.FlagAdds (mac0Flags dq ++ [(12, Outside 0 0x1000 (BitVec.ofInt 32 (dq / 2 ^ 12)).toInt)]) g
        g.rtpDepth := by
  subst hdq
  rw [← shiftRight_literal]
  exact ⟨rfl, toInt_limE _, (Gte.flagAdds_setMac0 _ _).trans (Gte.flagAdds_setIr0 _ _)⟩

end

/-! The command -/

/-- The transform leaves the operands of RTP and the screen FIFO, and pushes the Z FIFO (R415, R451). -/
theorem SameView.rtpTransform {g0 g : Gte} (hg : SameView g0 g) (v : Vec16) (sh : Nat) (lm : Bool) :
    SameView g0 (g.rtpTransform v sh lm) ∧
      ((g.rtpTransform v sh lm).sz0 = g.sz1 ∧ (g.rtpTransform v sh lm).sz1 = g.sz2 ∧
        (g.rtpTransform v sh lm).sz2 = g.sz3) ∧
      (g.rtpTransform v sh lm).sxy1 = g.sxy1 ∧ (g.rtpTransform v sh lm).sxy2 = g.sxy2 := by
  obtain ⟨w, z, h⟩ := exists_rtpTransform g0 v sh lm
  rw [h g hg]
  exact ⟨⟨hg.rt, hg.tr, hg.h, hg.ofx, hg.ofy, hg.dqa, hg.dqb⟩, ⟨rfl, rfl, rfl⟩, rfl, rfl⟩

/-- What the screen point and the depth cue leave, from the GTE after the transform (R451). -/
theorem rtpScreen_rtpDepth_spec {g t : Gte} {q dq : Int} (ht : t = g.rtpScreen.rtpDepth)
    (hq : q = g.quotient) (hdq : dq = q * g.dqa.toInt + g.dqb.toInt) :
    t.sxy2.sx.toInt = min (max (screenWord q g.ir1 g.ofx) (-0x400)) 0x3FF ∧
      t.sxy2.sy.toInt = min (max (screenWord q g.ir2 g.ofy) (-0x400)) 0x3FF ∧
      t.mac0 = BitVec.ofInt 32 dq ∧
      t.ir0.toInt = min (max (BitVec.ofInt 32 (dq / 2 ^ 12)).toInt 0) 0x1000 ∧
      Gte.FlagAdds ([(17, (divide config.gteDivTableSatSetsFlag g.h.toNat g.sz3.toNat).2 = true)]
        ++ screenFlags q g
        ++ [(14, Outside (-0x400) 0x3FF (screenWord q g.ir1 g.ofx)),
          (13, Outside (-0x400) 0x3FF (screenWord q g.ir2 g.ofy))]
        ++ (mac0Flags dq ++ [(12, Outside 0 0x1000 (BitVec.ofInt 32 (dq / 2 ^ 12)).toInt)])) g t := by
  obtain ⟨hx, hy⟩ := g.sxy2_rtpScreen
  have hcue : dq = g.rtpScreen.quotient * g.rtpScreen.dqa.toInt + g.rtpScreen.dqb.toInt := by
    obtain ⟨_, _, _, h⟩ := g.rtpScreen_frame
    rw [hdq, hq, h]
    rfl
  obtain ⟨hmac, hir, hflags⟩ := g.rtpScreen.rtpDepth_spec hcue
  have hsxy : g.rtpScreen.rtpDepth.sxy2 = g.rtpScreen.sxy2 := by
    obtain ⟨_, _, _, h⟩ := g.rtpScreen.rtpDepth_frame
    rw [h]
  subst ht hq
  rw [hsxy]
  exact ⟨hx, hy, hmac, hir, g.flagAdds_rtpScreen.trans hflags⟩

/-- Of the rest, the screen point and the depth cue push the screen FIFO. -/
theorem Gte.rtpScreen_rtpDepth_frame (g : Gte) : ∃ m i p f, g.rtpScreen.rtpDepth =
    { g with mac0 := m, ir0 := i, sxy0 := g.sxy1, sxy1 := g.sxy2, sxy2 := p, flag := f } := by
  obtain ⟨_, p, _, hscreen⟩ := g.rtpScreen_frame
  obtain ⟨m, i, f, hdepth⟩ := g.rtpScreen.rtpDepth_frame
  rw [hdepth, hscreen]
  exact ⟨m, i, p, f, rfl⟩

/-- Settles O58: the transform, then the screen point and the depth cue, which read what it left. -/
theorem rtpsResults : Obligations.RtpsResults := by
  unfold Obligations.RtpsResults
  rintro s sf lm sh r1 r2 r3 v w a b x e z hu hsh ⟨rfl, rfl, rfl⟩ rfl rfl h he rfl
  obtain rfl : sh = shiftOf sf := hsh
  refine ⟨_, show execRtps sf lm s = _ from gteCommand_of_usable hu _, ?_⟩
  dsimp only
  rw [Gte.rtpLast, Gte.rtp, show s.gte.clearFlag.v0 = s.gte.v0 from rfl]
  obtain ⟨hlanes, hz⟩ := RowSums.rtpTransform_spec (g := s.gte.clearFlag) (shiftOf sf) lm h he
  have hsums := RowSums.flagAdds_rtpTransform (g := s.gte.clearFlag) (shiftOf sf) lm h he
  have hclear : SameView s.gte s.gte.clearFlag := ⟨rfl, rfl, rfl, rfl, rfl, rfl, rfl⟩
  obtain ⟨view, ⟨hsz0, hsz1, hsz2⟩, hsxy1, hsxy2⟩ :=
    hclear.rtpTransform s.gte.v0 (shiftOf sf) lm
  -- From here on only the fields of the GTE after the transform matter.
  obtain ⟨k, hk⟩ : ∃ k, s.gte.clearFlag.rtpTransform s.gte.v0 (shiftOf sf) lm = k := ⟨_, rfl⟩
  rw [hk] at hlanes hz hsums view hsz0 hsz1 hsz2 hsxy1 hsxy2 ⊢
  obtain ⟨hsx, hsy, hmac0, hir0, hafter⟩ := rtpScreen_rtpDepth_spec (g := k) rfl rfl rfl
  have hflags := (hsums.trans hafter).flagIs rfl
  obtain ⟨m, i, p, f, hframe⟩ := k.rtpScreen_rtpDepth_frame
  rw [hframe] at hsx hsy hmac0 hir0 hflags ⊢
  rw [← view.h, ← view.ofx, ← view.ofy, ← view.dqa, ← view.dqb]
  refine ⟨k.quotient, _, rfl, rfl, hlanes, hsz0, hsz1, hsz2, hz, hsxy1, hsxy2, hsx, hsy, hmac0, hir0,
    ?_⟩
  simp only [List.append_assoc, List.cons_append, List.nil_append] at hflags ⊢
  exact hflags

end Sys2Proof.Machine
end
